-- ==== Sys2Proof/Word.lean ====
section
/-! DEFINITION. Sys2Proof/Word.lean: the plain data of the block: bits, samples, written reals, 5-bit codes, characters, modes, bands.
Nothing here computes beyond reading a field; what a rule of spec/ computes stands in the files under Machine/. -/

namespace Sys2Proof

/-- A bit of the demodulated stream: `true` is 1 (mark), `false` is 0 (space); spec/00_scope.md section 5. -/
abbrev Bit := Bool

/-- One sample of the streaming port, a signed 16-bit integer (R33); read as a number by `BitVec.toInt`. -/
abbrev Sample := BitVec 16

/-- A real number written as plain data: a rational, or one of the non-zero reals `Config.real` names
(DESIGN CHOICE, notes/assumptions/3.md). -/
inductive RealNumber where
  | rational (q : Rat)
  | named (n : Nat)
  deriving DecidableEq, Repr

/-- A character sequence; a character is one Unicode scalar value (R76). -/
abbrev Text := List Char

/-- A 5-bit code, the tuple of a frame's data bits in the order received, `d1` first (R62). -/
structure Code where
  d1 : Bit
  d2 : Bit
  d3 : Bit
  d4 : Bit
  d5 : Bit
  deriving DecidableEq, Repr

/-- The code written as five digits, earliest first (R62): `Code.of 1 1 0 0 0` is the code `11000`. -/
abbrev Code.of (d1 d2 d3 d4 d5 : Nat) : Code :=
  ⟨d1 == 1, d2 == 1, d3 == 1, d4 == 1, d5 == 1⟩

/-- The data bits in stream order (R60, offsets 1 to 5). -/
def Code.toList (c : Code) : List Bit := [c.d1, c.d2, c.d3, c.d4, c.d5]

/-- The shift state, DecodeState (R26); exactly three values (R75). -/
inductive Mode where
  | lat
  | rus
  | figs
  deriving DecidableEq, Repr

/-- ST.RUN (R27). -/
inductive RunState where
  | running
  | stopped
  deriving DecidableEq, Repr

/-- The two bands of the discriminator (R83). -/
inductive Band where
  | mark
  | space
  deriving DecidableEq, Repr

end Sys2Proof
end

