-- ==== Sys2Proof/Config.lean ====
section
/-! DEFINITION. Sys2Proof/Config.lean: what an implementation fixes (R8, R13): the parameters of one block, the shape
of the Codebook, and what the spec leaves OPEN, which are constants without a body. -/

namespace Sys2Proof

/-- One finite map of the Codebook from codes to values, as its list of entries (R68). -/
abbrev CodeMap (α : Type) := List (Code × α)

/-- CODEBOOK (R24, R68): the mode-switch table and one table for each mode. -/
structure Codebook where
  switch : CodeMap Mode
  lat    : CodeMap Char
  rus    : CodeMap Char
  figs   : CodeMap Char
  deriving DecidableEq, Repr

/-- EDGE (R8, R88): how a filter pass treats the ends of a window. -/
inductive Edge where
  | zeroState
  | other
  deriving DecidableEq, Repr

/-- NUMERICS (R8, R94), by name: exact real arithmetic, or another instance of which nothing is known
(notes/assumptions/4.md). -/
inductive Arithmetic where
  | exact
  | other (n : Nat)
  deriving DecidableEq, Repr

/-- The parameters of one block (R8), before any check, and SPB, the read-only register derived from them (R20). A
positive real is a `RealNumber` (notes/assumptions/3.md). -/
structure Params where
  baud        : RealNumber
  markFreq    : RealNumber
  spaceFreq   : RealNumber
  sampleRate  : RealNumber
  order       : Nat
  halfWidth   : RealNumber
  trim        : Bool
  fmt         : Bool
  boundFactor : Nat
  codebook    : Codebook
  placeholder : Char
  numerics    : Arithmetic
  edge        : Edge
  spb         : Nat
  deriving DecidableEq, Repr

/-- What an energy may depend on besides the band and the samples: the parameters that R79 lists for DISC, TRIM_LEN
apart, as real numbers. CODEBOOK and PLACEHOLDER are not among them (R24, R25, R40). -/
structure FilterConfig where
  markFreq   : ℝ
  spaceFreq  : ℝ
  sampleRate : ℝ
  halfWidth  : ℝ
  order      : Nat
  edge       : Edge

/-- The reals that `RealNumber.named` writes. No body: any non-zero reals (free value, notes/assumptions/3.md). -/
opaque Config.real : Nat → ℝˣ

/-- The energies of the `n`-th NUMERICS other than the exact one (R94). No body: nothing is known of it but that it is a
function into an ordered domain (free value, notes/assumptions/4.md). -/
opaque Config.energy : Nat → FilterConfig → Band → List ℝ → Rat

/-- PLACEHOLDER of the default Configuration (R25), OPEN in the spec: free value, notes/assumptions/5.md. -/
opaque Config.placeholder : Char

/-- The number from which the default HALF_WIDTH is taken; OPEN in the spec: free value, notes/assumptions/6.md. It is a
rational, where the spec leaves any real open: DESIGN CHOICE, unsafe, the same entry. -/
opaque Config.halfWidthFree : Rat

end Sys2Proof
end

