-- ==== Sys2Proof/Machine/Codebook.lean ====
section
/-! DEFINITION. Sys2Proof/Machine/Codebook.lean: the Codebook's two lookups and the shift-state machine over it (R44,
R68, R119 to R124), and the two Codebook contents the spec gives (R125). -/

namespace Sys2Proof

/-- `TABLE[m]` (R68). -/
def Codebook.table (cb : Codebook) (m : Mode) : CodeMap Char :=
  match m with
  | .lat => cb.lat
  | .rus => cb.rus
  | .figs => cb.figs

/-- "keys unique" in each of the four maps (R10, R68). -/
abbrev Codebook.UniqueKeys (cb : Codebook) : Prop :=
  (cb.switch.map Prod.fst).Nodup ∧ (cb.lat.map Prod.fst).Nodup ∧ (cb.rus.map Prod.fst).Nodup ∧
    (cb.figs.map Prod.fst).Nodup

/-- `Exec(code, m)` (R119): the mode-switch table first (R120), then the table of the mode on entry (R121), else
PLACEHOLDER (R122). At most one character, and the mode after. -/
def execCode (cb : Codebook) (placeholder : Char) (code : Code) (m : Mode) : Option Char × Mode :=
  match cb.switch.lookup code with
  | some target => (none, target)
  | none =>
    match (cb.table m).lookup code with
    | some c => (some c, m)
    | none => (some placeholder, m)

/-- CB_DEFAULT (R125 (a)): the content of R127 to R158, all but three entries PRESUMED by the spec itself
(notes/assumptions/7.md). -/
def cbDefault : Codebook where
  switch := [(Code.of 1 1 1 1 1, .lat), (Code.of 0 0 0 0 0, .rus), (Code.of 1 1 0 1 1, .figs)]
  lat := [
    (Code.of 0 0 0 0 1, 'T'), (Code.of 0 0 0 1 0, '\r'), (Code.of 0 0 0 1 1, 'O'), (Code.of 0 0 1 0 0, ' '),
    (Code.of 0 0 1 0 1, 'H'), (Code.of 0 0 1 1 0, 'N'), (Code.of 0 0 1 1 1, 'M'), (Code.of 0 1 0 0 0, '\n'),
    (Code.of 0 1 0 0 1, 'L'), (Code.of 0 1 0 1 0, 'R'), (Code.of 0 1 0 1 1, 'G'), (Code.of 0 1 1 0 0, 'I'),
    (Code.of 0 1 1 0 1, 'P'), (Code.of 0 1 1 1 0, 'C'), (Code.of 0 1 1 1 1, 'V'), (Code.of 1 0 0 0 0, 'E'),
    (Code.of 1 0 0 0 1, 'Z'), (Code.of 1 0 0 1 0, 'D'), (Code.of 1 0 0 1 1, 'B'), (Code.of 1 0 1 0 0, 'S'),
    (Code.of 1 0 1 0 1, 'Y'), (Code.of 1 0 1 1 0, 'F'), (Code.of 1 0 1 1 1, 'X'), (Code.of 1 1 0 0 0, 'A'),
    (Code.of 1 1 0 0 1, 'W'), (Code.of 1 1 0 1 0, 'J'), (Code.of 1 1 1 0 0, 'U'), (Code.of 1 1 1 0 1, 'Q'),
    (Code.of 1 1 1 1 0, 'K')]
  rus := [
    (Code.of 0 0 0 0 1, 'Т'), (Code.of 0 0 0 1 0, '\r'), (Code.of 0 0 0 1 1, 'О'), (Code.of 0 0 1 0 0, ' '),
    (Code.of 0 0 1 0 1, 'Х'), (Code.of 0 0 1 1 0, 'Н'), (Code.of 0 0 1 1 1, 'М'), (Code.of 0 1 0 0 0, '\n'),
    (Code.of 0 1 0 0 1, 'Л'), (Code.of 0 1 0 1 0, 'Р'), (Code.of 0 1 0 1 1, 'Г'), (Code.of 0 1 1 0 0, 'И'),
    (Code.of 0 1 1 0 1, 'П'), (Code.of 0 1 1 1 0, 'Ц'), (Code.of 0 1 1 1 1, 'Ж'), (Code.of 1 0 0 0 0, 'Е'),
    (Code.of 1 0 0 0 1, 'З'), (Code.of 1 0 0 1 0, 'Д'), (Code.of 1 0 0 1 1, 'Б'), (Code.of 1 0 1 0 0, 'С'),
    (Code.of 1 0 1 0 1, 'Ы'), (Code.of 1 0 1 1 0, 'Ф'), (Code.of 1 0 1 1 1, 'Ь'), (Code.of 1 1 0 0 0, 'А'),
    (Code.of 1 1 0 0 1, 'В'), (Code.of 1 1 0 1 0, 'Й'), (Code.of 1 1 1 0 0, 'У'), (Code.of 1 1 1 0 1, 'Я'),
    (Code.of 1 1 1 1 0, 'К')]
  figs := [
    (Code.of 0 0 0 0 1, '5'), (Code.of 0 0 0 1 0, '\r'), (Code.of 0 0 0 1 1, '9'), (Code.of 0 0 1 0 0, ' '),
    (Code.of 0 0 1 0 1, 'Щ'), (Code.of 0 0 1 1 0, ','), (Code.of 0 0 1 1 1, '.'), (Code.of 0 1 0 0 0, '\n'),
    (Code.of 0 1 0 0 1, ')'), (Code.of 0 1 0 1 0, '4'), (Code.of 0 1 0 1 1, 'Ш'), (Code.of 0 1 1 0 0, '8'),
    (Code.of 0 1 1 0 1, '0'), (Code.of 0 1 1 1 0, ':'), (Code.of 0 1 1 1 1, '='), (Code.of 1 0 0 0 0, '3'),
    (Code.of 1 0 0 0 1, '+'), (Code.of 1 0 0 1 1, '?'), (Code.of 1 0 1 0 0, '\''), (Code.of 1 0 1 0 1, '6'),
    (Code.of 1 0 1 1 0, 'Э'), (Code.of 1 0 1 1 1, '/'), (Code.of 1 1 0 0 0, '-'), (Code.of 1 1 0 0 1, '2'),
    (Code.of 1 1 0 1 0, 'Ю'), (Code.of 1 1 1 0 0, '7'), (Code.of 1 1 1 0 1, '1'), (Code.of 1 1 1 1 0, '(')]

/-- CB_SRC (R125 (b)): the entries the document attests, and no other. -/
def cbSrc : Codebook where
  switch := [(Code.of 1 1 0 1 1, .figs)]
  lat := [(Code.of 1 1 0 0 0, 'A')]
  rus := []
  figs := [(Code.of 0 0 0 0 1, '5')]

end Sys2Proof
end

