-- ==== Sys2Proof/Machine/Derived.lean ====
section
/-! DEFINITION. Sys2Proof/Machine/Derived.lean: the numbers written reals stand for, the values derived from the parameters (R9, R20 to R22, R83) and the
conditions under which the parameters are those of a block at all (R10, R68, R99, R203). -/

namespace Sys2Proof

/-- The real number that the data writes. -/
def RealNumber.value (x : RealNumber) : ℝ :=
  match x with
  | .rational q => (q : ℝ)
  | .named n => (Config.real n : ℝ)

/-- The inverse of a written real; 0 for 0. -/
def RealNumber.inverse (x : RealNumber) : ℝ :=
  match x with
  | .rational q => ((q⁻¹ : Rat) : ℝ)
  | .named n => ((Config.real n)⁻¹ : ℝˣ)

theorem RealNumber.value_eq_zero_iff (x : RealNumber) : x.value = 0 ↔ x = .rational 0 := by
  cases x with
  | rational q => simp [RealNumber.value]
  | named n => simp [RealNumber.value]

theorem RealNumber.inverse_eq (x : RealNumber) : x.inverse = x.value⁻¹ := by
  cases x <;> simp [RealNumber.inverse, RealNumber.value]

/-- Rounding to the nearest integer, a tie to the even one (R9, D1). -/
noncomputable def roundHalfEven (x : ℝ) : Int :=
  let f := ⌊x⌋
  let r := x - f
  if r < 1 / 2 then f
  else if 1 / 2 < r then f + 1
  else if f % 2 = 0 then f else f + 1

/-- BIT_DURATION in seconds (R9, R20). -/
noncomputable def Params.bitDuration (p : Params) : ℝ := 1 / p.baud.value

/-- The value SPB has to have (R9, R20). -/
noncomputable def Params.derivedSpb (p : Params) : Int := roundHalfEven (p.sampleRate.value * p.bitDuration)

/-- BOUND (R21). -/
def Params.bound (p : Params) : Nat := p.boundFactor * p.spb

/-- TRIM_LEN (R22): one fifth of a window, rounded down, or 0. -/
def Params.trimLen (p : Params) : Nat := if p.trim then p.spb / 5 else 0

/-- The parameters DISC gives its filters (R79). -/
def Params.filter (p : Params) : FilterConfig where
  markFreq := p.markFreq.value
  spaceFreq := p.spaceFreq.value
  sampleRate := p.sampleRate.value
  halfWidth := p.halfWidth.value
  order := p.order
  edge := p.edge

/-- `f_B`, the centre of a band in hertz (R83). -/
def FilterConfig.centre (f : FilterConfig) (b : Band) : ℝ :=
  match b with
  | .mark => f.markFreq
  | .space => f.spaceFreq

/-- `lo_B` (R83). -/
def FilterConfig.lowEdge (f : FilterConfig) (b : Band) : ℝ := f.centre b - f.halfWidth

/-- `hi_B` (R83). -/
def FilterConfig.highEdge (f : FilterConfig) (b : Band) : ℝ := f.centre b + f.halfWidth

/-- R99: the band lies strictly inside 0 to half the sample rate. -/
abbrev FilterConfig.BandOk (f : FilterConfig) (b : Band) : Prop :=
  0 < f.lowEdge b ∧ f.lowEdge b < f.highEdge b ∧ f.highEdge b < f.sampleRate / 2

/-- How many keys SWITCH has. R41 and R68 say exactly 3; R125 gives CB_SRC, with 1, as an instance of the same structure
beside them. Both are taken: 3 keys, or CB_SRC as it stands (DESIGN CHOICE, notes/assumptions/20.md). -/
abbrev Codebook.SwitchSize (cb : Codebook) : Prop := cb.switch.length = 3 ∨ cb = cbSrc

/-- The parameters are those of a block: the types of R8, SPB the rounded quotient (R9, R20), "samples-per-bit > 0" and
unique keys (R10), the size of SWITCH (R41, R68, R203 (b); DESIGN CHOICE as to CB_SRC, notes/assumptions/20.md),
realisable bands and order (R99). Others are "refused: the model gives [them] no behaviour". -/
structure Params.Legal (p : Params) : Prop where
  baud_pos        : 0 < p.baud.value
  markFreq_pos    : 0 < p.markFreq.value
  spaceFreq_pos   : 0 < p.spaceFreq.value
  sampleRate_pos  : 0 < p.sampleRate.value
  halfWidth_pos   : 0 < p.halfWidth.value
  order_pos       : 1 ≤ p.order
  boundFactor_pos : 1 ≤ p.boundFactor
  spb_derived     : (p.spb : Int) = p.derivedSpb
  spb_pos         : 0 < p.spb
  markBand        : p.filter.BandOk .mark
  spaceBand       : p.filter.BandOk .space
  uniqueKeys      : p.codebook.UniqueKeys
  switchSize      : p.codebook.SwitchSize

/-- TRIM = 0 in place of the parameter's value, as inside BATCH (R22, R82, R170). -/
def Params.untrimmed (p : Params) : Params := { p with trim := false }

/-- HALF_WIDTH of the default Configuration: some rational in 50 to 60, where R8 and R19 leave any real of that range open
(DESIGN CHOICE, notes/assumptions/6.md). Every other Configuration may have an irrational one. -/
def Config.halfWidth : Rat := max 50 (min 60 Config.halfWidthFree)

/-- The defaults of R8. -/
def Params.default : Params where
  baud := .rational (909 / 20)
  markFreq := .rational 1170
  spaceFreq := .rational 1000
  sampleRate := .rational 44100
  order := 5
  halfWidth := .rational Config.halfWidth
  trim := true
  fmt := true
  boundFactor := 10
  codebook := cbDefault
  placeholder := Config.placeholder
  numerics := .exact
  edge := .zeroState
  spb := 970

/-- Less than a half above an integer: that integer. -/
theorem roundHalfEven_of_lt {x : ℝ} {n : Int} (h1 : (n : ℝ) ≤ x) (h2 : x < n + 1 / 2) : roundHalfEven x = n := by
  have hf : ⌊x⌋ = n := Int.floor_eq_iff.mpr ⟨h1, by linarith⟩
  simp only [roundHalfEven, hf]
  rw [if_pos (by linarith)]

theorem Config.halfWidth_bounds : 50 ≤ Config.halfWidth ∧ Config.halfWidth ≤ 60 :=
  ⟨le_max_left _ _, max_le (by norm_num) (min_le_left _ _)⟩

/-- "round(44100/45.45) = 970" (R9). -/
theorem Params.default_derivedSpb : Params.default.derivedSpb = 970 :=
  roundHalfEven_of_lt (by norm_num [Params.default, Params.bitDuration, RealNumber.value])
    (by norm_num [Params.default, Params.bitDuration, RealNumber.value])

theorem Params.default_legal : Params.default.Legal := by
  have h1 : (50 : ℝ) ≤ (Config.halfWidth : ℝ) := by exact_mod_cast Config.halfWidth_bounds.1
  have h2 : (Config.halfWidth : ℝ) ≤ 60 := by exact_mod_cast Config.halfWidth_bounds.2
  constructor
  case spb_derived => rw [Params.default_derivedSpb]; rfl
  case uniqueKeys => exact (by decide +kernel : cbDefault.UniqueKeys)
  case switchSize => exact .inl rfl
  case order_pos => decide
  case boundFactor_pos => decide
  case spb_pos => decide
  all_goals
    simp only [Params.default, Params.filter, RealNumber.value, FilterConfig.BandOk, FilterConfig.lowEdge,
      FilterConfig.highEdge, FilterConfig.centre]
    norm_num
  · linarith [Config.halfWidth_bounds.1]
  · refine ⟨?_, ?_, ?_⟩ <;> linarith
  · refine ⟨?_, ?_, ?_⟩ <;> linarith

end Sys2Proof
end

