-- ==== Sys2Proof/Machine/Numerics.lean ====
section
/-! DEFINITION. Sys2Proof/Machine/Numerics.lean: the discriminator over an arbitrary arithmetic (R79 to R82, R90, R94),
and the arithmetics of which nothing is known. -/

namespace Sys2Proof.Machine

/-- NUMERICS (R94): one total function into an ordered domain, with a strict weak order. -/
structure Numerics where
  /-- the domain of energies -/
  E : Type
  /-- the energy of a band of a trimmed segment -/
  energy : FilterConfig → Band → List ℝ → E
  /-- `gt a b` is `a > b` -/
  gt : E → E → Bool
  gt_irrefl : ∀ a, gt a a = false
  gt_trans : ∀ a b c, gt a b = true → gt b c = true → gt a c = true
  gt_weak : ∀ a b c, gt a c = true → gt a b = true ∨ gt b c = true

/-- `Disc(seg)` (R79): drop the leading TRIM_LEN samples (R82), then bit 1 exactly if the mark energy is strictly the
greater (R90). No threshold and no memory (R81, R91). -/
def disc (num : Numerics) (f : FilterConfig) (trimLen : Nat) (seg : List ℝ) : Bit :=
  let u := seg.drop trimLen
  num.gt (num.energy f .mark u) (num.energy f .space u)

/-- The `n`-th free arithmetic: `Config.energy n`, with the order of the rationals (notes/assumptions/4.md). -/
def freeNumerics (n : Nat) : Numerics where
  E := Rat
  energy := Config.energy n
  gt a b := decide (b < a)
  gt_irrefl a := by simp
  gt_trans a b c h1 h2 := by
    simp only [decide_eq_true_eq] at *
    exact lt_trans h2 h1
  gt_weak a b c h := by
    simp only [decide_eq_true_eq] at *
    exact (lt_or_ge b a).imp id fun hab => lt_of_lt_of_le h hab

end Sys2Proof.Machine
end

