-- ==== Sys2Proof/Machine/RefNumerics.lean ====
section
/-! DEFINITION. Sys2Proof/Machine/RefNumerics.lean: the reference arithmetic in exact reals (R85 to R89): Butterworth
bandpass filters, applied forward and backward from rest, and the sum of squares: the NUMERICS named `exact`, the default
of R8 (notes/assumptions/15.md). -/

namespace Sys2Proof.Machine

/-- Pre-warped angular frequency of an edge (R86, step 1). -/
noncomputable def refWarp (p : FilterConfig) (f : ℝ) : ℝ :=
  4 * Real.tan (Real.pi * f / p.sampleRate)

/-- `bw` (R86, step 2). -/
noncomputable def refBandwidth (p : FilterConfig) (b : Band) : ℝ :=
  refWarp p (p.highEdge b) - refWarp p (p.lowEdge b)

/-- `w0` (R86, step 2). -/
noncomputable def refCentre (p : FilterConfig) (b : Band) : ℝ :=
  Real.sqrt (refWarp p (p.lowEdge b) * refWarp p (p.highEdge b))

/-- `p_k` of the low-pass prototype of order `n`, `k` from 1 (R85). -/
noncomputable def refProtoPole (n k : Nat) : ℂ :=
  Complex.exp (Complex.I * Real.pi * (2 * k + n - 1) / (2 * n))

/-- `q_k` (R86, step 3). -/
noncomputable def refScaledPole (p : FilterConfig) (b : Band) (k : Nat) : ℂ :=
  (refBandwidth p b / 2 : ℝ) * refProtoPole p.order k

/-- The square root of `q_k² - w0²` (R86, step 3: "either square root may be taken"). -/
noncomputable def refPoleSplit (p : FilterConfig) (b : Band) (k : Nat) : ℂ :=
  (refScaledPole p b k ^ 2 - (refCentre p b : ℂ) ^ 2) ^ (1 / 2 : ℂ)

/-- The 2N analogue poles `a_1 .. a_2N` (R86, step 3). -/
noncomputable def refAnaloguePoles (p : FilterConfig) (b : Band) : List ℂ :=
  ((List.range p.order).map fun k => refScaledPole p b (k + 1) + refPoleSplit p b (k + 1)) ++
    ((List.range p.order).map fun k => refScaledPole p b (k + 1) - refPoleSplit p b (k + 1))

/-- The 2N digital poles (R86, step 4). -/
noncomputable def refPoles (p : FilterConfig) (b : Band) : List ℂ :=
  (refAnaloguePoles p b).map fun a => (4 + a) / (4 - a)

/-- The 2N digital zeros: N at +1 and N at -1 (R86, step 4). -/
def refZeros (p : FilterConfig) : List ℂ := List.replicate p.order 1 ++ List.replicate p.order (-1)

/-- The gain `g` (R86, step 4). -/
noncomputable def refGain (p : FilterConfig) (b : Band) : ℝ :=
  refBandwidth p b ^ p.order * (4 ^ p.order / ((refAnaloguePoles p b).map fun a => 4 - a).prod : ℂ).re

/-- `H_B(z)` (R86, step 5). -/
noncomputable def refTransfer (p : FilterConfig) (b : Band) (z : ℂ) : ℂ :=
  (refGain p b : ℂ) * ((refZeros p).map fun q => z - q).prod / ((refPoles p b).map fun q => z - q).prod

/-- One factor `(z - q) / (z - a)` of `H_B` as a causal filter: `y[n] = x[n] - q x[n-1] + a y[n-1]`, the values before
the sequence given (R87, R88). -/
def filterFactor (q a : ℂ) : ℂ → ℂ → List ℂ → List ℂ
  | _, _, [] => []
  | xPrev, yPrev, x :: xs =>
    let y := x - q * xPrev + a * yPrev
    y :: filterFactor q a x y xs

/-- The factors of `H_B` one after another, each from rest (R88: ZERO_STATE). -/
def filterFactors (factors : List (ℂ × ℂ)) (u : List ℂ) : List ℂ :=
  factors.foldl (fun x f => filterFactor f.1 f.2 0 0 x) u

/-- `F_B(x)`: the causal filtering of a real sequence by `H_B` from rest (R87, R88). -/
noncomputable def refFilter (p : FilterConfig) (b : Band) (u : List ℝ) : List ℝ :=
  (filterFactors ((refZeros p).zip (refPoles p b)) (u.map Complex.ofReal)).map fun y => refGain p b * y.re

/-- `ZeroPhase_B(u)` (R87). -/
noncomputable def refZeroPhase (p : FilterConfig) (b : Band) (u : List ℝ) : List ℝ :=
  (refFilter p b (refFilter p b u).reverse).reverse

/-- `Energy(B, u)` (R89). -/
noncomputable def refEnergy (p : FilterConfig) (b : Band) (u : List ℝ) : ℝ :=
  ((refZeroPhase p b u).map fun y => y ^ 2).sum

/-- A tone of unit amplitude and phase 0 at frequency `freq`, `n` samples (the segments of R79's example and R95). -/
noncomputable def toneSegment (p : FilterConfig) (freq : ℝ) (n : Nat) : List ℝ :=
  (List.range n).map fun k => Real.sin (2 * Real.pi * freq * k / p.sampleRate)

/-- The reference arithmetic as a NUMERICS (R94: "The reference instance is rules R85 to R89 over the real numbers"). -/
noncomputable def refNumerics : Numerics where
  E := ℝ
  energy := refEnergy
  gt a b := @decide (b < a) (Classical.propDecidable _)
  gt_irrefl a := by simp
  gt_trans a b c h1 h2 := by
    simp only [decide_eq_true_eq] at *
    exact lt_trans h2 h1
  gt_weak a b c h := by
    simp only [decide_eq_true_eq] at *
    exact (lt_or_ge b a).imp id fun hab => lt_of_lt_of_le h hab

/-- The polarity property (R95) of an arithmetic at one length of segment: the mark tone alone gives 1, the space tone
alone 0. "A property the document expects of the defaults, not a rule of the machine": no operation uses it. -/
def Polarity (num : Numerics) (p : FilterConfig) (trimLen n : Nat) : Prop :=
  disc num p trimLen (toneSegment p p.markFreq n) = true ∧ disc num p trimLen (toneSegment p p.spaceFreq n) = false

end Sys2Proof.Machine
end

