-- ==== Sys2Proof/Machine/Discriminator.lean ====
section
/-! DEFINITION. Sys2Proof/Machine/Discriminator.lean: DISC of one block, under the NUMERICS and EDGE of its Configuration
(R79, R94), and DemodAll (R97). -/

namespace Sys2Proof.Machine

/-- The NUMERICS of a block (R8, R94, D7, D8). Exact real arithmetic with EDGE = ZERO_STATE is the reference of R85 to
R89. Another treatment of the ends "supplies its own NUMERICS" (R88), of which nothing is known
(notes/assumptions/4.md). -/
noncomputable def arithmeticOf (a : Arithmetic) (e : Edge) : Numerics :=
  match a, e with
  | .exact, .zeroState => refNumerics
  | .exact, .other => freeNumerics 0
  | .other n, _ => freeNumerics (n + 1)

/-- `Disc(seg)` of a block (R79). -/
noncomputable def windowBit (p : Params) (seg : List ℝ) : Bit :=
  disc (arithmeticOf p.numerics p.edge) p.filter p.trimLen seg

/-! ### Code for the comparison of exact reals

Lean gives every definition that the step calls a compiled form, and no terminating program compares two reals. So
`exactBit` stands in for the reference in compiled code only: its type says which bit it is, and its run does not end
(notes/assumptions/15.md). No statement and no meaning names it. -/

/-- The bit of the reference arithmetic, as its type says. -/
def exactBit (f : FilterConfig) (trimLen : Nat) (seg : List ℝ) : { b : Bit // b = disc refNumerics f trimLen seg } :=
  exactBit f trimLen seg
partial_fixpoint

/-- The compiled form of `windowBit`. -/
def windowBitCode (p : Params) (seg : List ℝ) : Bit :=
  match p.numerics, p.edge with
  | .exact, .zeroState => (exactBit p.filter p.trimLen seg).val
  | .exact, .other => disc (freeNumerics 0) p.filter p.trimLen seg
  | .other n, _ => disc (freeNumerics (n + 1)) p.filter p.trimLen seg

@[csimp] theorem windowBit_eq_windowBitCode : @windowBit = @windowBitCode := by
  funext p seg
  simp only [windowBit, windowBitCode, arithmeticOf]
  split
  · exact (exactBit p.filter p.trimLen seg).property.symm
  · rfl
  · rfl

/-- `DemodAll(x)` (R97): the whole windows of a signal, with TRIM = 0; a remainder gives no bit. -/
def demodAll (p : Params) (x : List ℝ) : List Bit :=
  (List.range (x.length / p.spb)).map fun k => windowBit p.untrimmed ((x.drop (k * p.spb)).take p.spb)

end Sys2Proof.Machine
end

