-- ==== Sys2Proof/Syntax.lean ====
section
/-! DEFINITION. Sys2Proof/Syntax.lean: the instructions, one constructor for each row of spec/opcode_table.json: the
bit-stream items (R59), the port operations (R159) and the internal steps (R84, R110, R119, R167). -/

namespace Sys2Proof

/-- The samples of all channels at one moment of a raw signal: the first channel's, and the others' (R171). -/
structure SampleFrame where
  first  : RealNumber
  others : List RealNumber
  deriving DecidableEq, Repr

/-- The operand of BATCH, "a finite in-memory sample array with a known sample rate and channel count" (R170): one
entry for each moment, earliest first. How channels lie in the host's array is the Preprocessor's affair
(DESIGN CHOICE, notes/assumptions/9.md). -/
abbrev Signal := List SampleFrame

/-- One constructor for each row of spec/opcode_table.json. A frame's operand is its stop length (R60). -/
inductive Instr where
  | idle
  | falseStart (data : Code)
  | frame00000 (stop : Nat)
  | frame00001 (stop : Nat)
  | frame00010 (stop : Nat)
  | frame00011 (stop : Nat)
  | frame00100 (stop : Nat)
  | frame00101 (stop : Nat)
  | frame00110 (stop : Nat)
  | frame00111 (stop : Nat)
  | frame01000 (stop : Nat)
  | frame01001 (stop : Nat)
  | frame01010 (stop : Nat)
  | frame01011 (stop : Nat)
  | frame01100 (stop : Nat)
  | frame01101 (stop : Nat)
  | frame01110 (stop : Nat)
  | frame01111 (stop : Nat)
  | frame10000 (stop : Nat)
  | frame10001 (stop : Nat)
  | frame10010 (stop : Nat)
  | frame10011 (stop : Nat)
  | frame10100 (stop : Nat)
  | frame10101 (stop : Nat)
  | frame10110 (stop : Nat)
  | frame10111 (stop : Nat)
  | frame11000 (stop : Nat)
  | frame11001 (stop : Nat)
  | frame11010 (stop : Nat)
  | frame11011 (stop : Nat)
  | frame11100 (stop : Nat)
  | frame11101 (stop : Nat)
  | frame11110 (stop : Nat)
  | frame11111 (stop : Nat)
  | reset
  | sample (x : Sample)
  | push (chunk : List Sample)
  | poll
  | batch (raw : Signal)
  | stop
  | abort
  | demod
  | sync (bits : List Bit) (m0 : Mode)
  | exec (code : Code) (m : Mode)
  | format (t : Text)
  deriving DecidableEq, Repr

/-- The operations a host may issue (R159); the internal steps are "never issued by the host". -/
inductive PortOp where
  | reset
  | sample (x : Sample)
  | push (chunk : List Sample)
  | poll
  | batch (raw : Signal)
  | stop
  | abort
  deriving DecidableEq, Repr

end Sys2Proof
end

