-- ==== Sys2Proof/WellFormed.lean ====
section
/-! DEFINITION. Sys2Proof/WellFormed.lean: which terms of Instr stand for an instruction of the hardware. A frame has at
least one stop bit (R60); a raw signal has the same channels at every moment (R171). -/

namespace Sys2Proof

/-- A frame's stop length is at least 1 (R60). -/
def stopLengthOk (stop : Nat) : Bool := decide (1 ≤ stop)

/-- Every moment of the signal has as many channels as the first (R170: "a known ... channel count"). -/
def signalOk (raw : Signal) : Bool :=
  raw.all fun f => f.others.length == ((raw.head?.map fun g => g.others.length).getD 0)

/-- The check of an instruction. -/
def Instr.wellFormed (i : Instr) : Bool :=
  match i with
  | .idle => true
  | .falseStart _ => true
  | .frame00000 n => stopLengthOk n
  | .frame00001 n => stopLengthOk n
  | .frame00010 n => stopLengthOk n
  | .frame00011 n => stopLengthOk n
  | .frame00100 n => stopLengthOk n
  | .frame00101 n => stopLengthOk n
  | .frame00110 n => stopLengthOk n
  | .frame00111 n => stopLengthOk n
  | .frame01000 n => stopLengthOk n
  | .frame01001 n => stopLengthOk n
  | .frame01010 n => stopLengthOk n
  | .frame01011 n => stopLengthOk n
  | .frame01100 n => stopLengthOk n
  | .frame01101 n => stopLengthOk n
  | .frame01110 n => stopLengthOk n
  | .frame01111 n => stopLengthOk n
  | .frame10000 n => stopLengthOk n
  | .frame10001 n => stopLengthOk n
  | .frame10010 n => stopLengthOk n
  | .frame10011 n => stopLengthOk n
  | .frame10100 n => stopLengthOk n
  | .frame10101 n => stopLengthOk n
  | .frame10110 n => stopLengthOk n
  | .frame10111 n => stopLengthOk n
  | .frame11000 n => stopLengthOk n
  | .frame11001 n => stopLengthOk n
  | .frame11010 n => stopLengthOk n
  | .frame11011 n => stopLengthOk n
  | .frame11100 n => stopLengthOk n
  | .frame11101 n => stopLengthOk n
  | .frame11110 n => stopLengthOk n
  | .frame11111 n => stopLengthOk n
  | .reset => true
  | .sample _ => true
  | .push _ => true
  | .poll => true
  | .batch raw => signalOk raw
  | .stop => true
  | .abort => true
  | .demod => true
  | .sync _ _ => true
  | .exec _ _ => true
  | .format _ => true

end Sys2Proof
end

