-- ==== Sys2Proof/Decode.lean ====
section
/-! DEFINITION. Sys2Proof/Decode.lean: parsing the bit stream into items (R59 to R67, R108) and writing items as bits
(R60, R78). The decoder is total on any bits and rejects by name. -/

namespace Sys2Proof

/-- Why no item can be parsed at a position: neither is an error (R108, R110). -/
inductive DecodeReject where
  /-- no bit is left -/
  | endOfBits
  /-- a start bit with fewer than 7 bits available from it: left for a later call (R108) -/
  | incompleteFrame
  deriving DecidableEq, Repr

/-- The count of consecutive 1-bits at the front, the stop scan of T3 (R105). -/
def onesRun : List Bit → Nat
  | true :: rest => onesRun rest + 1
  | _ => 0

/-- The FRAME item of a code (R59, R63). -/
def Instr.frameOf (c : Code) (stop : Nat) : Instr :=
  match c with
  | ⟨false, false, false, false, false⟩ => .frame00000 stop
  | ⟨false, false, false, false, true⟩ => .frame00001 stop
  | ⟨false, false, false, true, false⟩ => .frame00010 stop
  | ⟨false, false, false, true, true⟩ => .frame00011 stop
  | ⟨false, false, true, false, false⟩ => .frame00100 stop
  | ⟨false, false, true, false, true⟩ => .frame00101 stop
  | ⟨false, false, true, true, false⟩ => .frame00110 stop
  | ⟨false, false, true, true, true⟩ => .frame00111 stop
  | ⟨false, true, false, false, false⟩ => .frame01000 stop
  | ⟨false, true, false, false, true⟩ => .frame01001 stop
  | ⟨false, true, false, true, false⟩ => .frame01010 stop
  | ⟨false, true, false, true, true⟩ => .frame01011 stop
  | ⟨false, true, true, false, false⟩ => .frame01100 stop
  | ⟨false, true, true, false, true⟩ => .frame01101 stop
  | ⟨false, true, true, true, false⟩ => .frame01110 stop
  | ⟨false, true, true, true, true⟩ => .frame01111 stop
  | ⟨true, false, false, false, false⟩ => .frame10000 stop
  | ⟨true, false, false, false, true⟩ => .frame10001 stop
  | ⟨true, false, false, true, false⟩ => .frame10010 stop
  | ⟨true, false, false, true, true⟩ => .frame10011 stop
  | ⟨true, false, true, false, false⟩ => .frame10100 stop
  | ⟨true, false, true, false, true⟩ => .frame10101 stop
  | ⟨true, false, true, true, false⟩ => .frame10110 stop
  | ⟨true, false, true, true, true⟩ => .frame10111 stop
  | ⟨true, true, false, false, false⟩ => .frame11000 stop
  | ⟨true, true, false, false, true⟩ => .frame11001 stop
  | ⟨true, true, false, true, false⟩ => .frame11010 stop
  | ⟨true, true, false, true, true⟩ => .frame11011 stop
  | ⟨true, true, true, false, false⟩ => .frame11100 stop
  | ⟨true, true, true, false, true⟩ => .frame11101 stop
  | ⟨true, true, true, true, false⟩ => .frame11110 stop
  | ⟨true, true, true, true, true⟩ => .frame11111 stop

/-- The item at the front of the bits (R59): IDLE by its one bit; FRAME or FALSESTART by the bit six places after the
start bit, which must be present (R66, R108). A frame's stop run ends at the first 0 or at the end of the bits (R109). -/
def decodeItem : List Bit → Except DecodeReject Instr
  | [] => .error .endOfBits
  | true :: _ => .ok .idle
  | false :: d1 :: d2 :: d3 :: d4 :: d5 :: true :: rest => .ok (Instr.frameOf ⟨d1, d2, d3, d4, d5⟩ (onesRun rest + 1))
  | false :: d1 :: d2 :: d3 :: d4 :: d5 :: false :: _ => .ok (.falseStart ⟨d1, d2, d3, d4, d5⟩)
  | false :: _ => .error .incompleteFrame

/-- `enc_s(code, s)` (R78): start bit, five data bits, `s` stop bits. -/
def encS (c : Code) (stop : Nat) : List Bit := false :: c.toList ++ List.replicate stop true

/-- `enc(code)` (R78), the document's test encoder: two stop bits. -/
def enc (c : Code) : List Bit := encS c 2

/-- The bits of an instruction (R60, R61); the operations and internal steps have no bit encoding (R77). -/
def encode (i : Instr) : Option (List Bit) :=
  match i with
  | .idle => some [true]
  | .falseStart data => some (false :: data.toList ++ [false])
  | .frame00000 n => some (encS (Code.of 0 0 0 0 0) n)
  | .frame00001 n => some (encS (Code.of 0 0 0 0 1) n)
  | .frame00010 n => some (encS (Code.of 0 0 0 1 0) n)
  | .frame00011 n => some (encS (Code.of 0 0 0 1 1) n)
  | .frame00100 n => some (encS (Code.of 0 0 1 0 0) n)
  | .frame00101 n => some (encS (Code.of 0 0 1 0 1) n)
  | .frame00110 n => some (encS (Code.of 0 0 1 1 0) n)
  | .frame00111 n => some (encS (Code.of 0 0 1 1 1) n)
  | .frame01000 n => some (encS (Code.of 0 1 0 0 0) n)
  | .frame01001 n => some (encS (Code.of 0 1 0 0 1) n)
  | .frame01010 n => some (encS (Code.of 0 1 0 1 0) n)
  | .frame01011 n => some (encS (Code.of 0 1 0 1 1) n)
  | .frame01100 n => some (encS (Code.of 0 1 1 0 0) n)
  | .frame01101 n => some (encS (Code.of 0 1 1 0 1) n)
  | .frame01110 n => some (encS (Code.of 0 1 1 1 0) n)
  | .frame01111 n => some (encS (Code.of 0 1 1 1 1) n)
  | .frame10000 n => some (encS (Code.of 1 0 0 0 0) n)
  | .frame10001 n => some (encS (Code.of 1 0 0 0 1) n)
  | .frame10010 n => some (encS (Code.of 1 0 0 1 0) n)
  | .frame10011 n => some (encS (Code.of 1 0 0 1 1) n)
  | .frame10100 n => some (encS (Code.of 1 0 1 0 0) n)
  | .frame10101 n => some (encS (Code.of 1 0 1 0 1) n)
  | .frame10110 n => some (encS (Code.of 1 0 1 1 0) n)
  | .frame10111 n => some (encS (Code.of 1 0 1 1 1) n)
  | .frame11000 n => some (encS (Code.of 1 1 0 0 0) n)
  | .frame11001 n => some (encS (Code.of 1 1 0 0 1) n)
  | .frame11010 n => some (encS (Code.of 1 1 0 1 0) n)
  | .frame11011 n => some (encS (Code.of 1 1 0 1 1) n)
  | .frame11100 n => some (encS (Code.of 1 1 1 0 0) n)
  | .frame11101 n => some (encS (Code.of 1 1 1 0 1) n)
  | .frame11110 n => some (encS (Code.of 1 1 1 1 0) n)
  | .frame11111 n => some (encS (Code.of 1 1 1 1 1) n)
  | .reset => none
  | .sample _ => none
  | .push _ => none
  | .poll => none
  | .batch _ => none
  | .stop => none
  | .abort => none
  | .demod => none
  | .sync _ _ => none
  | .exec _ _ => none
  | .format _ => none

/-- How many bits of the stream an instruction consumes (R59, R112): 1, 1, `6 + stop`; the operations consume none here. -/
def consumedBits (i : Instr) : Nat :=
  match i with
  | .idle => 1
  | .falseStart _ => 1
  | .frame00000 n => 6 + n
  | .frame00001 n => 6 + n
  | .frame00010 n => 6 + n
  | .frame00011 n => 6 + n
  | .frame00100 n => 6 + n
  | .frame00101 n => 6 + n
  | .frame00110 n => 6 + n
  | .frame00111 n => 6 + n
  | .frame01000 n => 6 + n
  | .frame01001 n => 6 + n
  | .frame01010 n => 6 + n
  | .frame01011 n => 6 + n
  | .frame01100 n => 6 + n
  | .frame01101 n => 6 + n
  | .frame01110 n => 6 + n
  | .frame01111 n => 6 + n
  | .frame10000 n => 6 + n
  | .frame10001 n => 6 + n
  | .frame10010 n => 6 + n
  | .frame10011 n => 6 + n
  | .frame10100 n => 6 + n
  | .frame10101 n => 6 + n
  | .frame10110 n => 6 + n
  | .frame10111 n => 6 + n
  | .frame11000 n => 6 + n
  | .frame11001 n => 6 + n
  | .frame11010 n => 6 + n
  | .frame11011 n => 6 + n
  | .frame11100 n => 6 + n
  | .frame11101 n => 6 + n
  | .frame11110 n => 6 + n
  | .frame11111 n => 6 + n
  | .reset => 0
  | .sample _ => 0
  | .push _ => 0
  | .poll => 0
  | .batch _ => 0
  | .stop => 0
  | .abort => 0
  | .demod => 0
  | .sync _ _ => 0
  | .exec _ _ => 0
  | .format _ => 0

/-- The stream bits of a table word, earliest first. The table writes an item as a numeral whose most significant digit
is the earliest bit, so of a 7-bit item the earliest bit is bit 6. Bits from 7 up belong to no item
(DEDUCED, notes/assumptions/11.md). -/
def tableBits (nbits w : Nat) : List Bit :=
  ((List.range (min nbits 7)).map fun k => w.testBit k).reverse

/-- The instruction the decoder reads from a table word; none where it rejects. -/
def decodeTableWord (nbits w : Nat) : Option Instr :=
  match decodeItem (tableBits nbits w) with
  | .ok i => some i
  | .error _ => none

end Sys2Proof
end

