-- ==== Sys2Proof/Machine/State.lean ====
section
/-! DEFINITION. Sys2Proof/Machine/State.lean: the state of one block, plain data, and its value at reset (R39). -/

namespace Sys2Proof.Machine

/-- The Configuration of one block: parameters that satisfy R10 and R99 (D2: the type carries the proof). -/
structure Configuration where
  params : Params
  legal  : params.Legal
  deriving DecidableEq, Repr

/-- The error kinds and the one warning (R179). They are values handed back (R190), not stops of the machine. -/
inductive ErrorKind where
  /-- BATCH: the block has zero length (R180) -/
  | emptySignal
  /-- BATCH: the maximum magnitude is zero (R181) -/
  | silentSignal
  /-- ABORT: the audio source failed (R182) -/
  | sourceFailure
  /-- a warning of the host's wrapper around BATCH, never of the block (R183) -/
  | rateMismatch
  deriving DecidableEq, Repr

/-- What an operation hands back (R159; R100, R119, R167 for the internal steps). -/
inductive Response where
  /-- the fragment of one POLL or STOP -/
  | fragment (t : Text)
  /-- the text of one BATCH -/
  | decoded (t : Text)
  /-- an error kind in place of a result -/
  | error (k : ErrorKind)
  /-- `(text, consumed, m)` of SYNC -/
  | synced (t : Text) (consumed : Nat) (m : Mode)
  /-- `(c, m')` of EXEC -/
  | executed (c : Option Char) (m : Mode)
  /-- the text of FORMAT -/
  | formatted (t : Text)
  deriving DecidableEq, Repr

/-- The synchroniser's control state (R101). -/
inductive Control where
  | seekStart
  | accumulate (partialBits : List Bit)
  | seekStop (data : Code)
  deriving DecidableEq, Repr

/-- The working registers of one Sync evaluation (R28 to R30). -/
structure SyncRegs where
  control : Control
  i       : Nat
  data    : Code
  j       : Nat
  stop    : Nat
  out     : Text
  m       : Mode
  deriving DecidableEq, Repr

/-- The registers at the start of an evaluation (R39, R110): `i = 0`, `out` empty, `m` the mode given; `data`, `j` and
`stop` "need no reset value" and are 0 here (DESIGN CHOICE, notes/assumptions/8.md). -/
def SyncRegs.start (m : Mode) : SyncRegs where
  control := .seekStart
  i := 0
  data := Code.of 0 0 0 0 0
  j := 0
  stop := 0
  out := []
  m := m

/-- The registers while no evaluation runs: they hold nothing (R28; DESIGN CHOICE, notes/assumptions/8.md). -/
def SyncRegs.rest : SyncRegs := SyncRegs.start .lat

/-- What the outside world may ask for at one moment (notes/assumptions/10.md). -/
inductive Request where
  /-- a port operation (R159) -/
  | op (o : PortOp)
  /-- the bench step BITS of R77 -/
  | bits (bs : List Bit)
  /-- a POLL watched item by item, the grain at which R11 counts instructions (notes/assumptions/1.md) -/
  | pollByItems
  deriving DecidableEq, Repr

/-- The state of one block: MODE, RUN, SB, BB (R26, R27, R32, R34), the working registers of `Sync` (R29), the
Configuration, which no step writes (R13, notes/assumptions/2.md), and the model's own record of what the outside world
asks for and has been handed back (notes/assumptions/10.md). -/
structure State where
  cfg        : Configuration
  mode       : Mode
  run        : RunState
  sb         : List Sample
  bb         : List Bit
  sync       : SyncRegs
  evaluating : Bool
  pending    : List Request
  returned   : List Response
  deriving DecidableEq, Repr

/-- Faults of the machine: none. "Nothing else fails" (R187), and the three error kinds are values handed back (R190). -/
inductive Fault where
  deriving DecidableEq, Repr

/-- Refusals of the model. No arm of exec and no meaning gives one. -/
inductive Refusal where
  /-- Raised by exec for an instruction without a meaning yet; none is left. Safe: the model stops where the hardware
  goes on. -/
  | notModelled (mnemonic : String)
  deriving DecidableEq, Repr

/-- The default Configuration (R8). -/
def Configuration.default : Configuration := ⟨Params.default, Params.default_legal⟩

/-- The block right after power-on, which is one RESET (R198, R39): the values of R39, the default Configuration, nothing
asked for and nothing handed back. -/
def State.reset : State where
  cfg := Configuration.default
  mode := .lat
  run := .running
  sb := []
  bb := []
  sync := SyncRegs.rest
  evaluating := false
  pending := []
  returned := []

end Sys2Proof.Machine
end

