-- ==== Sys2Proof/Machine/Operands.lean ====
section
/-! DEFINITION. Sys2Proof/Machine/Operands.lean: the forms in which the operations take their operands: bits of a
sequence, int16 samples, raw signals, and the instruction a port operation is. -/

namespace Sys2Proof.Machine

/-- The instruction a host's operation is (R159). -/
def portInstr (o : PortOp) : Instr :=
  match o with
  | .reset => .reset
  | .sample x => .sample x
  | .push chunk => .push chunk
  | .poll => .poll
  | .batch raw => .batch raw
  | .stop => .stop
  | .abort => .abort

/-- `bits[k]` (R110). It is read only where `k` is below the length; elsewhere it is 0. -/
def bitAt (bits : List Bit) (k : Nat) : Bit := bits.getD k false

/-- The five data bits from index `k` (R104). -/
def codeAt (bits : List Bit) (k : Nat) : Code :=
  ⟨bitAt bits k, bitAt bits (k + 1), bitAt bits (k + 2), bitAt bits (k + 3), bitAt bits (k + 4)⟩

/-- The number a streaming sample stands for: its signed value, no scaling (R33, D11). -/
def sampleValue (x : Sample) : ℝ := (x.toInt : ℝ)

/-- "select the first channel if multi-channel" (R171). -/
def firstChannel (raw : Signal) : List RealNumber := raw.map SampleFrame.first

/-- The maximum absolute sample magnitude of a block, 0 for the empty one (R171). -/
def maxMagnitude : List RealNumber → ℝ
  | [] => 0
  | v :: y => max |v.value| (maxMagnitude y)

/-- Every sample of the block is zero, which is that its maximum magnitude is zero (`silent_iff_maxMagnitude`; R181). -/
def silent (y : List RealNumber) : Bool := y.all fun v => v == .rational 0

/-- Division by the block's maximum magnitude (R171). -/
noncomputable def normalise (y : List RealNumber) : List ℝ := y.map fun v => v.value / maxMagnitude y

/-! The compiled form of `normalise` takes no quotient of reals: the greatest magnitude has the least inverse. -/

/-- The inverse of the maximum magnitude; 0 for a silent block. -/
def inverseMagnitude : List RealNumber → ℝ
  | [] => 0
  | v :: y =>
    if v = .rational 0 then inverseMagnitude y
    else if silent y then |v.inverse|
    else min |v.inverse| (inverseMagnitude y)

/-- The compiled form of `normalise`. -/
def normaliseCode (y : List RealNumber) : List ℝ :=
  let inv := inverseMagnitude y
  y.map fun v => v.value * inv

theorem maxMagnitude_nonneg (y : List RealNumber) : 0 ≤ maxMagnitude y := by
  cases y with
  | nil => exact le_rfl
  | cons v y => exact le_max_of_le_left (abs_nonneg _)

/-- A block is silent exactly when its maximum magnitude is zero. -/
theorem silent_iff_maxMagnitude (y : List RealNumber) : silent y = true ↔ maxMagnitude y = 0 := by
  induction y with
  | nil => simp [silent, maxMagnitude]
  | cons v y ih =>
    have hs : silent (v :: y) = true ↔ v = .rational 0 ∧ silent y = true := by simp [silent]
    rw [hs, ih, ← v.value_eq_zero_iff]
    have h0 := maxMagnitude_nonneg y
    constructor
    · rintro ⟨h1, h2⟩
      simp [maxMagnitude, h1, h2]
    · intro h
      have h1 : |v.value| ≤ 0 := h ▸ le_max_left _ _
      have h2 : maxMagnitude y ≤ 0 := h ▸ le_max_right |v.value| _
      exact ⟨abs_nonpos_iff.mp h1, le_antisymm h2 h0⟩

theorem inverseMagnitude_eq (y : List RealNumber) : inverseMagnitude y = (maxMagnitude y)⁻¹ := by
  induction y with
  | nil => simp [inverseMagnitude, maxMagnitude]
  | cons v y ih =>
    have h0 := maxMagnitude_nonneg y
    simp only [inverseMagnitude, maxMagnitude, ih, RealNumber.inverse_eq, abs_inv]
    split
    · rw [(v.value_eq_zero_iff).mpr ‹_›, abs_zero, max_eq_right h0]
    · have hv : 0 < |v.value| := abs_pos.mpr fun h => ‹¬v = .rational 0› ((v.value_eq_zero_iff).mp h)
      split
      · rw [(silent_iff_maxMagnitude y).mp ‹_›, max_eq_left hv.le]
      · have hy : 0 < maxMagnitude y :=
          lt_of_le_of_ne h0 fun h => ‹¬silent y = true› ((silent_iff_maxMagnitude y).mpr h.symm)
        rcases le_total |v.value| (maxMagnitude y) with h | h
        · rw [max_eq_right h, min_eq_right (inv_anti₀ hv h)]
        · rw [max_eq_left h, min_eq_left (inv_anti₀ hy h)]

@[csimp] theorem normalise_eq_normaliseCode : @normalise = @normaliseCode := by
  funext y
  simp [normalise, normaliseCode, inverseMagnitude_eq, div_eq_mul_inv]

/-- `Preprocess(raw)` (R171): EmptySignal is tested first, then SilentSignal (R189), else the first channel divided by
its maximum magnitude. -/
def preprocess (raw : Signal) : Except ErrorKind (List ℝ) :=
  if raw.length = 0 then .error .emptySignal
  else if silent (firstChannel raw) then .error .silentSignal
  else .ok (normalise (firstChannel raw))

end Sys2Proof.Machine
end

