-- ==== Sys2Proof/Machine/Ops.lean ====
section
/-! DEFINITION. Sys2Proof/Machine/Ops.lean: the named operations on the state that the instructions share: writes of a
field, handing back a result or an error kind, the two backlogs, DEMOD (R84), the transitions of the synchroniser (R103
to R108), `Sync` (R110), output formatting (R167), and the parts of POLL (R166). -/

namespace Sys2Proof.Machine

/-! ### Writes of one field -/

/-- `ST.MODE <- m` (R26). -/
def State.withMode (m : Mode) (s : State) : State := { s with mode := m }

/-- `ST.RUN <- r` (R27). -/
def State.withRun (r : RunState) (s : State) : State := { s with run := r }

/-- `ST.SB <- x` (R42). -/
def State.withSb (x : List Sample) (s : State) : State := { s with sb := x }

/-- `ST.BB <- b` (R43). -/
def State.withBb (b : List Bit) (s : State) : State := { s with bb := b }

/-- The working registers of the synchroniser (R29). -/
def State.withSync (r : SyncRegs) (s : State) : State := { s with sync := r }

/-- Whether a POLL is being watched item by item (notes/assumptions/1.md). -/
def State.withEvaluating (e : Bool) (s : State) : State := { s with evaluating := e }

/-- What the outside world still asks for (notes/assumptions/10.md). -/
def State.withPending (q : List Request) (s : State) : State := { s with pending := q }

/-- Hand a result back to the caller; the block keeps no copy (R35, R45). -/
def State.respond (x : Response) (s : State) : State := { s with returned := s.returned ++ [x] }

/-- `raise k` (R190, D28): the error kind is handed back in place of the result. There is no vector, no saved register,
no mode change and nothing to return from (R190, R191); what else an operation does before it raises stands in its
meaning. -/
def State.raise (k : ErrorKind) (s : State) : State := s.respond (.error k)

/-- An operation is accepted only while ST.RUN = RUNNING; "presented when it is not accepted [it] is refused: it
changes nothing and returns nothing" (R159; notes/assumptions/12.md). -/
def whenRunning (s : State) (effect : State → State) : State :=
  match s.run with
  | .running => effect s
  | .stopped => s

/-! ### Samples to bits -/

/-- DEMOD (R84): where a whole window waits, it leaves the front of SB and its bit joins the back of BB; else nothing. -/
def demodStep (s : State) : State :=
  let w := s.sb.take s.cfg.params.spb
  if s.cfg.params.spb ≤ s.sb.length then
    (s.withSb (s.sb.drop s.cfg.params.spb)).withBb (s.bb ++ [windowBit s.cfg.params (w.map sampleValue)])
  else s

/-- `while len(ST.SB) >= CFG.SPB: DEMOD` for at most `fuel` rounds (R161, R163). -/
def drainRounds : Nat → State → State
  | 0, s => s
  | fuel + 1, s => if s.cfg.params.spb ≤ s.sb.length then drainRounds fuel (demodStep s) else s

/-- The drain loop to its end: each round takes at least one sample away, so as many rounds as samples suffice. -/
def drain (s : State) : State := drainRounds s.sb.length s

/-- The truncation at the end of PUSH (R42, R163): keep the newest BOUND samples. It never fires (R164). -/
def truncateSb (s : State) : State :=
  if s.cfg.params.bound < s.sb.length then s.withSb (s.sb.drop (s.sb.length - s.cfg.params.bound)) else s

/-! ### The synchroniser -/

/-- T1 (R103): an idle 1 is passed over. -/
def SyncRegs.t1 (r : SyncRegs) : SyncRegs := { r with i := r.i + 1, control := .seekStart }

/-- T2 (R104): the start bit is at `i`; the five data bits are collected. `i` stays. -/
def SyncRegs.t2 (data : Code) (r : SyncRegs) : SyncRegs :=
  { r with data := data, control := .accumulate data.toList }

/-- T3 (R105): the stop run of length `n` from index `i + 6` is counted. -/
def SyncRegs.t3 (n : Nat) (r : SyncRegs) : SyncRegs :=
  { r with j := r.i + 6 + n, stop := n, control := .seekStop r.data }

/-- T4 (R106): the frame's code is executed, and the whole frame is passed over. -/
def SyncRegs.t4 (cb : Codebook) (placeholder : Char) (r : SyncRegs) : SyncRegs :=
  let e := execCode cb placeholder r.data r.m
  { r with out := r.out ++ e.1.toList, m := e.2, i := r.j, control := .seekStart }

/-- T5 (R107): one bit past the start bit, nothing else. -/
def SyncRegs.t5 (r : SyncRegs) : SyncRegs := { r with i := r.i + 1, control := .seekStart }

/-- One framing attempt at a start bit, T2 then T3 then T4 or T5 (R104 to R107). -/
def SyncRegs.attempt (cb : Codebook) (placeholder : Char) (data : Code) (n : Nat) (r : SyncRegs) : SyncRegs :=
  let r' := (r.t2 data).t3 n
  if 1 ≤ r'.stop then r'.t4 cb placeholder else r'.t5

/-- One round of the outer loop of R110; none where the loop ends: no bit left, or a start bit with fewer than 7 bits
from it (R108). -/
def syncRound (cb : Codebook) (placeholder : Char) (bits : List Bit) (r : SyncRegs) : Option SyncRegs :=
  if bits.length ≤ r.i then none
  else if bitAt bits r.i then some r.t1
  else if bits.length - r.i < 7 then none
  else some (r.attempt cb placeholder (codeAt bits (r.i + 1)) (onesRun (bits.drop (r.i + 6))))

/-- The outer loop of R110 for at most `fuel` rounds. -/
def syncRounds (cb : Codebook) (placeholder : Char) (bits : List Bit) : Nat → SyncRegs → SyncRegs
  | 0, r => r
  | fuel + 1, r =>
    match syncRound cb placeholder bits r with
    | some r' => syncRounds cb placeholder bits fuel r'
    | none => r

/-- `(text, consumed, m)` (R100). -/
structure SyncResult where
  text     : Text
  consumed : Nat
  mode     : Mode
  deriving DecidableEq, Repr

/-- `Sync(bits, m0)` (R100, R110). Every round advances `i`, so as many rounds as bits suffice (R118). -/
def syncBits (cb : Codebook) (placeholder : Char) (bits : List Bit) (m0 : Mode) : SyncResult :=
  let r := syncRounds cb placeholder bits bits.length (SyncRegs.start m0)
  ⟨r.out, r.i, r.m⟩

/-- `Sync` with the block's own Codebook and PLACEHOLDER (R100: it "reads CODEBOOK and PLACEHOLDER through Exec"). -/
def State.syncWith (s : State) (bits : List Bit) (m0 : Mode) : SyncResult :=
  syncBits s.cfg.params.codebook s.cfg.params.placeholder bits m0

/-! ### Output -/

/-- Step 1 of `Format` (R167): every carriage return becomes a newline. -/
def crToLf (t : Text) : Text := t.map fun c => if c = '\r' then '\n' else c

/-- Step 2 of `Format` (R167): runs of newlines become one. -/
def collapseLf (u : Text) : Text :=
  u.foldl (fun v c => if c = '\n' ∧ v.getLast? = some '\n' then v else v ++ [c]) []

/-- `Format(t)` (R167). -/
def formatText (t : Text) : Text := collapseLf (crToLf t)

/-! ### The parts of POLL -/

/-- The end of POLL (R166): the consumed prefix leaves BB, the mode is stored, the fragment is handed back, formatted
when CFG.FMT = 1. -/
def State.deliver (r : SyncResult) (s : State) : State :=
  (((s.withBb (s.bb.drop r.consumed)).withMode r.mode)).respond
    (.fragment (if s.cfg.params.fmt then formatText r.text else r.text))

/-- POLL of a running session (R166): the gate of 7 bits, then `Sync` over BB and its end. -/
def pollEffect (s : State) : State :=
  if s.bb.length < 7 then s.respond (.fragment []) else s.deliver (s.syncWith s.bb s.mode)

end Sys2Proof.Machine
end

