-- ==== Sys2Proof/Machine/Internal.lean ====
section
/-! DEFINITION. Sys2Proof/Machine/Internal.lean: the internal steps and functions that the table lists as rows of their
own: DEMOD (R84), SYNC (R100, R110), EXEC (R119), FORMAT (R167). A function's result is handed back and nothing else
changes (R100, R119: it writes no state itself; notes/assumptions/16.md). -/

namespace Sys2Proof.Machine

/-- DEMOD (R84): where fewer than SPB samples wait "the step is not enabled and the samples wait". -/
def execDemod (s : State) : Host.Outcome State Fault Refusal :=
  .next (demodStep s)

/-- SYNC (R100, R110). -/
def execSync (bits : List Bit) (m0 : Mode) (s : State) : Host.Outcome State Fault Refusal :=
  let r := s.syncWith bits m0
  .next (s.respond (.synced r.text r.consumed r.mode))

/-- EXEC (R119). -/
def execExec (code : Code) (m : Mode) (s : State) : Host.Outcome State Fault Refusal :=
  let e := execCode s.cfg.params.codebook s.cfg.params.placeholder code m
  .next (s.respond (.executed e.1 e.2))

/-- FORMAT (R167). -/
def execFormat (t : Text) (s : State) : Host.Outcome State Fault Refusal :=
  .next (s.respond (.formatted (formatText t)))

end Sys2Proof.Machine
end

