-- ==== Sys2Proof/Machine/Items.lean ====
section
/-! DEFINITION. Sys2Proof/Machine/Items.lean: the bit-stream items: IDLE (R103), FALSESTART (R107) and the 32 frames
(R106, R127 to R158). An item acts on the working registers of the evaluation that met it; MODE and BB are written when
that evaluation ends (R29, R110, R166). -/

namespace Sys2Proof.Machine

/-- T4 for the frame of a code with the given stop length (R104 to R106): the code is executed by the block's Codebook
under the evaluation's mode `m` (R119). -/
def frameEffect (code : Code) (stop : Nat) (s : State) : State :=
  s.withSync (s.sync.attempt s.cfg.params.codebook s.cfg.params.placeholder code stop)

/-- IDLE, T1 (R103): one bit passed over, no text, no change of mode. -/
def execIdle (s : State) : Host.Outcome State Fault Refusal :=
  .next (s.withSync s.sync.t1)

/-- FALSESTART, T2, T3, T5 (R104, R105, R107): the stop run is empty, so the attempt takes T5: one bit passed over, the
five inspected bits are met again. -/
def execFalseStart (data : Code) (s : State) : Host.Outcome State Fault Refusal :=
  .next (s.withSync (s.sync.attempt s.cfg.params.codebook s.cfg.params.placeholder data 0))

/-- FRAME 00000 (R127): in CB_DEFAULT a switch to RUS. -/
def execFrame00000 (stop : Nat) (s : State) : Host.Outcome State Fault Refusal :=
  .next (frameEffect (Code.of 0 0 0 0 0) stop s)

/-- FRAME 00001 (R128): in CB_DEFAULT LAT U+0054, RUS U+0422, FIGS U+0035. -/
def execFrame00001 (stop : Nat) (s : State) : Host.Outcome State Fault Refusal :=
  .next (frameEffect (Code.of 0 0 0 0 1) stop s)

/-- FRAME 00010 (R129): in CB_DEFAULT LAT U+000D, RUS U+000D, FIGS U+000D. -/
def execFrame00010 (stop : Nat) (s : State) : Host.Outcome State Fault Refusal :=
  .next (frameEffect (Code.of 0 0 0 1 0) stop s)

/-- FRAME 00011 (R130): in CB_DEFAULT LAT U+004F, RUS U+041E, FIGS U+0039. -/
def execFrame00011 (stop : Nat) (s : State) : Host.Outcome State Fault Refusal :=
  .next (frameEffect (Code.of 0 0 0 1 1) stop s)

/-- FRAME 00100 (R131): in CB_DEFAULT LAT U+0020, RUS U+0020, FIGS U+0020. -/
def execFrame00100 (stop : Nat) (s : State) : Host.Outcome State Fault Refusal :=
  .next (frameEffect (Code.of 0 0 1 0 0) stop s)

/-- FRAME 00101 (R132): in CB_DEFAULT LAT U+0048, RUS U+0425, FIGS U+0429. -/
def execFrame00101 (stop : Nat) (s : State) : Host.Outcome State Fault Refusal :=
  .next (frameEffect (Code.of 0 0 1 0 1) stop s)

/-- FRAME 00110 (R133): in CB_DEFAULT LAT U+004E, RUS U+041D, FIGS U+002C. -/
def execFrame00110 (stop : Nat) (s : State) : Host.Outcome State Fault Refusal :=
  .next (frameEffect (Code.of 0 0 1 1 0) stop s)

/-- FRAME 00111 (R134): in CB_DEFAULT LAT U+004D, RUS U+041C, FIGS U+002E. -/
def execFrame00111 (stop : Nat) (s : State) : Host.Outcome State Fault Refusal :=
  .next (frameEffect (Code.of 0 0 1 1 1) stop s)

/-- FRAME 01000 (R135): in CB_DEFAULT LAT U+000A, RUS U+000A, FIGS U+000A. -/
def execFrame01000 (stop : Nat) (s : State) : Host.Outcome State Fault Refusal :=
  .next (frameEffect (Code.of 0 1 0 0 0) stop s)

/-- FRAME 01001 (R136): in CB_DEFAULT LAT U+004C, RUS U+041B, FIGS U+0029. -/
def execFrame01001 (stop : Nat) (s : State) : Host.Outcome State Fault Refusal :=
  .next (frameEffect (Code.of 0 1 0 0 1) stop s)

/-- FRAME 01010 (R137): in CB_DEFAULT LAT U+0052, RUS U+0420, FIGS U+0034. -/
def execFrame01010 (stop : Nat) (s : State) : Host.Outcome State Fault Refusal :=
  .next (frameEffect (Code.of 0 1 0 1 0) stop s)

/-- FRAME 01011 (R138): in CB_DEFAULT LAT U+0047, RUS U+0413, FIGS U+0428. -/
def execFrame01011 (stop : Nat) (s : State) : Host.Outcome State Fault Refusal :=
  .next (frameEffect (Code.of 0 1 0 1 1) stop s)

/-- FRAME 01100 (R139): in CB_DEFAULT LAT U+0049, RUS U+0418, FIGS U+0038. -/
def execFrame01100 (stop : Nat) (s : State) : Host.Outcome State Fault Refusal :=
  .next (frameEffect (Code.of 0 1 1 0 0) stop s)

/-- FRAME 01101 (R140): in CB_DEFAULT LAT U+0050, RUS U+041F, FIGS U+0030. -/
def execFrame01101 (stop : Nat) (s : State) : Host.Outcome State Fault Refusal :=
  .next (frameEffect (Code.of 0 1 1 0 1) stop s)

/-- FRAME 01110 (R141): in CB_DEFAULT LAT U+0043, RUS U+0426, FIGS U+003A. -/
def execFrame01110 (stop : Nat) (s : State) : Host.Outcome State Fault Refusal :=
  .next (frameEffect (Code.of 0 1 1 1 0) stop s)

/-- FRAME 01111 (R142): in CB_DEFAULT LAT U+0056, RUS U+0416, FIGS U+003D. -/
def execFrame01111 (stop : Nat) (s : State) : Host.Outcome State Fault Refusal :=
  .next (frameEffect (Code.of 0 1 1 1 1) stop s)

/-- FRAME 10000 (R143): in CB_DEFAULT LAT U+0045, RUS U+0415, FIGS U+0033. -/
def execFrame10000 (stop : Nat) (s : State) : Host.Outcome State Fault Refusal :=
  .next (frameEffect (Code.of 1 0 0 0 0) stop s)

/-- FRAME 10001 (R144): in CB_DEFAULT LAT U+005A, RUS U+0417, FIGS U+002B. -/
def execFrame10001 (stop : Nat) (s : State) : Host.Outcome State Fault Refusal :=
  .next (frameEffect (Code.of 1 0 0 0 1) stop s)

/-- FRAME 10010 (R145): in CB_DEFAULT LAT U+0044, RUS U+0414, FIGS PLACEHOLDER. -/
def execFrame10010 (stop : Nat) (s : State) : Host.Outcome State Fault Refusal :=
  .next (frameEffect (Code.of 1 0 0 1 0) stop s)

/-- FRAME 10011 (R146): in CB_DEFAULT LAT U+0042, RUS U+0411, FIGS U+003F. -/
def execFrame10011 (stop : Nat) (s : State) : Host.Outcome State Fault Refusal :=
  .next (frameEffect (Code.of 1 0 0 1 1) stop s)

/-- FRAME 10100 (R147): in CB_DEFAULT LAT U+0053, RUS U+0421, FIGS U+0027. -/
def execFrame10100 (stop : Nat) (s : State) : Host.Outcome State Fault Refusal :=
  .next (frameEffect (Code.of 1 0 1 0 0) stop s)

/-- FRAME 10101 (R148): in CB_DEFAULT LAT U+0059, RUS U+042B, FIGS U+0036. -/
def execFrame10101 (stop : Nat) (s : State) : Host.Outcome State Fault Refusal :=
  .next (frameEffect (Code.of 1 0 1 0 1) stop s)

/-- FRAME 10110 (R149): in CB_DEFAULT LAT U+0046, RUS U+0424, FIGS U+042D. -/
def execFrame10110 (stop : Nat) (s : State) : Host.Outcome State Fault Refusal :=
  .next (frameEffect (Code.of 1 0 1 1 0) stop s)

/-- FRAME 10111 (R150): in CB_DEFAULT LAT U+0058, RUS U+042C, FIGS U+002F. -/
def execFrame10111 (stop : Nat) (s : State) : Host.Outcome State Fault Refusal :=
  .next (frameEffect (Code.of 1 0 1 1 1) stop s)

/-- FRAME 11000 (R151): in CB_DEFAULT LAT U+0041, RUS U+0410, FIGS U+002D. -/
def execFrame11000 (stop : Nat) (s : State) : Host.Outcome State Fault Refusal :=
  .next (frameEffect (Code.of 1 1 0 0 0) stop s)

/-- FRAME 11001 (R152): in CB_DEFAULT LAT U+0057, RUS U+0412, FIGS U+0032. -/
def execFrame11001 (stop : Nat) (s : State) : Host.Outcome State Fault Refusal :=
  .next (frameEffect (Code.of 1 1 0 0 1) stop s)

/-- FRAME 11010 (R153): in CB_DEFAULT LAT U+004A, RUS U+0419, FIGS U+042E. -/
def execFrame11010 (stop : Nat) (s : State) : Host.Outcome State Fault Refusal :=
  .next (frameEffect (Code.of 1 1 0 1 0) stop s)

/-- FRAME 11011 (R154): in CB_DEFAULT a switch to FIGS. -/
def execFrame11011 (stop : Nat) (s : State) : Host.Outcome State Fault Refusal :=
  .next (frameEffect (Code.of 1 1 0 1 1) stop s)

/-- FRAME 11100 (R155): in CB_DEFAULT LAT U+0055, RUS U+0423, FIGS U+0037. -/
def execFrame11100 (stop : Nat) (s : State) : Host.Outcome State Fault Refusal :=
  .next (frameEffect (Code.of 1 1 1 0 0) stop s)

/-- FRAME 11101 (R156): in CB_DEFAULT LAT U+0051, RUS U+042F, FIGS U+0031. -/
def execFrame11101 (stop : Nat) (s : State) : Host.Outcome State Fault Refusal :=
  .next (frameEffect (Code.of 1 1 1 0 1) stop s)

/-- FRAME 11110 (R157): in CB_DEFAULT LAT U+004B, RUS U+041A, FIGS U+0028. -/
def execFrame11110 (stop : Nat) (s : State) : Host.Outcome State Fault Refusal :=
  .next (frameEffect (Code.of 1 1 1 1 0) stop s)

/-- FRAME 11111 (R158): in CB_DEFAULT a switch to LAT. -/
def execFrame11111 (stop : Nat) (s : State) : Host.Outcome State Fault Refusal :=
  .next (frameEffect (Code.of 1 1 1 1 1) stop s)

end Sys2Proof.Machine
end

