-- ==== Sys2Proof/Machine/PortOps.lean ====
section
/-! DEFINITION. Sys2Proof/Machine/PortOps.lean: the operations a host issues (R159), each one atomic step (R51), and the
bench step BITS (R77). -/

namespace Sys2Proof.Machine

/-- RESET (R160): every piece of state to its reset value (R39); the Configuration stays (R200). Always accepted. -/
def execReset (s : State) : Host.Outcome State Fault Refusal :=
  .next (((((s.withMode .lat).withRun .running).withSb []).withBb []).withSync SyncRegs.rest |>.withEvaluating false)

/-- SAMPLE (R161): the sample joins SB, then DEMOD as long as it is enabled. -/
def execSample (x : Sample) (s : State) : Host.Outcome State Fault Refusal :=
  .next (whenRunning s fun s => drain (s.withSb (s.sb ++ [x])))

/-- PUSH (R163): the chunk joins SB, DEMOD as long as it is enabled, then the truncation to BOUND. -/
def execPush (chunk : List Sample) (s : State) : Host.Outcome State Fault Refusal :=
  .next (whenRunning s fun s => truncateSb (drain (s.withSb (s.sb ++ chunk))))

/-- POLL (R166). -/
def execPoll (s : State) : Host.Outcome State Fault Refusal :=
  .next (whenRunning s pollEffect)

/-- BATCH (R170): Preprocess, DemodAll, `Sync` from LAT; the text unformatted, or an error kind and no text (R180, R181).
Always accepted; MODE, RUN, SB and BB are neither read nor written. -/
def execBatch (raw : Signal) (s : State) : Host.Outcome State Fault Refusal :=
  match preprocess raw with
  | .error k => .next (s.raise k)
  | .ok x => .next (s.respond (.decoded (s.syncWith (demodAll s.cfg.params x) .lat).text))

/-- STOP (R173): one final POLL, then RUN is STOPPED. -/
def execStop (s : State) : Host.Outcome State Fault Refusal :=
  .next (whenRunning s fun s => (pollEffect s).withRun .stopped)

/-- ABORT (R174): BB and SB are emptied, RUN is STOPPED, and SourceFailure is handed back (R182). -/
def execAbort (s : State) : Host.Outcome State Fault Refusal :=
  .next (whenRunning s fun s => (((s.withBb []).withSb []).withRun .stopped).raise .sourceFailure)

/-- The bench step BITS (R77): the bits join BB, "standing for any PUSH whose windows demodulate to those bits", hence
under PUSH's condition. -/
def benchBits (bs : List Bit) (s : State) : State :=
  whenRunning s fun s => s.withBb (s.bb ++ bs)

end Sys2Proof.Machine
end

