-- ==== Sys2Proof/Machine/Dispatch.lean ====
section
/-! DEFINITION. Sys2Proof/Machine/Dispatch.lean: one arm for each constructor of Instr, each a call of its meaning. -/

namespace Sys2Proof.Machine

/-- What an instruction does to the state. -/
def exec (i : Instr) (s : State) : Host.Outcome State Fault Refusal :=
  match i with
  | .idle => Sys2Proof.Machine.execIdle s
  | .falseStart data => Sys2Proof.Machine.execFalseStart data s
  | .frame00000 n => Sys2Proof.Machine.execFrame00000 n s
  | .frame00001 n => Sys2Proof.Machine.execFrame00001 n s
  | .frame00010 n => Sys2Proof.Machine.execFrame00010 n s
  | .frame00011 n => Sys2Proof.Machine.execFrame00011 n s
  | .frame00100 n => Sys2Proof.Machine.execFrame00100 n s
  | .frame00101 n => Sys2Proof.Machine.execFrame00101 n s
  | .frame00110 n => Sys2Proof.Machine.execFrame00110 n s
  | .frame00111 n => Sys2Proof.Machine.execFrame00111 n s
  | .frame01000 n => Sys2Proof.Machine.execFrame01000 n s
  | .frame01001 n => Sys2Proof.Machine.execFrame01001 n s
  | .frame01010 n => Sys2Proof.Machine.execFrame01010 n s
  | .frame01011 n => Sys2Proof.Machine.execFrame01011 n s
  | .frame01100 n => Sys2Proof.Machine.execFrame01100 n s
  | .frame01101 n => Sys2Proof.Machine.execFrame01101 n s
  | .frame01110 n => Sys2Proof.Machine.execFrame01110 n s
  | .frame01111 n => Sys2Proof.Machine.execFrame01111 n s
  | .frame10000 n => Sys2Proof.Machine.execFrame10000 n s
  | .frame10001 n => Sys2Proof.Machine.execFrame10001 n s
  | .frame10010 n => Sys2Proof.Machine.execFrame10010 n s
  | .frame10011 n => Sys2Proof.Machine.execFrame10011 n s
  | .frame10100 n => Sys2Proof.Machine.execFrame10100 n s
  | .frame10101 n => Sys2Proof.Machine.execFrame10101 n s
  | .frame10110 n => Sys2Proof.Machine.execFrame10110 n s
  | .frame10111 n => Sys2Proof.Machine.execFrame10111 n s
  | .frame11000 n => Sys2Proof.Machine.execFrame11000 n s
  | .frame11001 n => Sys2Proof.Machine.execFrame11001 n s
  | .frame11010 n => Sys2Proof.Machine.execFrame11010 n s
  | .frame11011 n => Sys2Proof.Machine.execFrame11011 n s
  | .frame11100 n => Sys2Proof.Machine.execFrame11100 n s
  | .frame11101 n => Sys2Proof.Machine.execFrame11101 n s
  | .frame11110 n => Sys2Proof.Machine.execFrame11110 n s
  | .frame11111 n => Sys2Proof.Machine.execFrame11111 n s
  | .reset => Sys2Proof.Machine.execReset s
  | .sample x => Sys2Proof.Machine.execSample x s
  | .push chunk => Sys2Proof.Machine.execPush chunk s
  | .poll => Sys2Proof.Machine.execPoll s
  | .batch raw => Sys2Proof.Machine.execBatch raw s
  | .stop => Sys2Proof.Machine.execStop s
  | .abort => Sys2Proof.Machine.execAbort s
  | .demod => Sys2Proof.Machine.execDemod s
  | .sync bits m0 => Sys2Proof.Machine.execSync bits m0 s
  | .exec code m => Sys2Proof.Machine.execExec code m s
  | .format t => Sys2Proof.Machine.execFormat t s

end Sys2Proof.Machine
end

