-- ==== Sys2Proof/Machine/Fetch.lean ====
section
/-! DEFINITION. Sys2Proof/Machine/Fetch.lean: a POLL seen item by item (notes/assumptions/1.md): its opening, the fetch
of the item at index `i` of BB, and its end. -/

namespace Sys2Proof.Machine

/-- The state in which the items of BB run one a step: the working registers as at the start of an evaluation (R39,
R110). -/
def State.openEvaluation (s : State) : State :=
  (s.withSync (SyncRegs.start s.mode)).withEvaluating true

/-- POLL up to its call of `Sync` (R166): refused when stopped, an empty fragment below 7 bits, else the evaluation is
open. -/
def openPoll (s : State) : State :=
  whenRunning s fun s => if s.bb.length < 7 then s.respond (.fragment []) else s.openEvaluation

/-- The item at the synchroniser's index (R30, R59), or the name of the reason why there is none (R108). -/
def fetchItem (s : State) : Except DecodeReject Instr := decodeItem (s.bb.drop s.sync.i)

/-- The evaluation's result (R110, last line). -/
def SyncRegs.result (r : SyncRegs) : SyncResult := ⟨r.out, r.i, r.m⟩

/-- The end of POLL once no item is left (R166); the registers hold nothing after it (R28). -/
def closePoll (s : State) : State :=
  ((s.deliver s.sync.result).withSync SyncRegs.rest).withEvaluating false

/-- The bits of a table word stand in BB and the evaluation is open at their front. -/
def State.withItemWord (nbits w : Nat) (s : State) : State :=
  (s.withBb (tableBits nbits w)).openEvaluation

end Sys2Proof.Machine
end

