-- ==== Sys2Proof/Machine/Step.lean ====
section
/-! DEFINITION. Sys2Proof/Machine/Step.lean: one step of the machine. -/

namespace Sys2Proof.Machine

/-- One step. While a POLL is watched item by item, the item at the index runs, and when there is none the POLL ends.
Else the next request of the outside world is served whole (R51, D3); with none, the block is inert (R197). -/
def step (s : State) : Host.Outcome State Fault Refusal :=
  if s.evaluating then
    match fetchItem s with
    | .ok i => exec i s
    | .error _ => .next (closePoll s)
  else
    match s.pending with
    | [] => .next s
    | .op o :: rest => exec (portInstr o) (s.withPending rest)
    | .bits bs :: rest => .next (benchBits bs (s.withPending rest))
    | .pollByItems :: rest => .next (openPoll (s.withPending rest))

/-- The instruction of a table word, stored where the next step fetches (notes/assumptions/11.md). -/
def State.withFetchWord (s : State) (nbits w : Nat) : State := s.withItemWord nbits w

end Sys2Proof.Machine
end

