-- ==== Sys2Proof/Machine/Flags.lean ====
section
/-! DEFINITION. Sys2Proof/Machine/Flags.lean: the block has no flags (R31). It has one status line, and the host's
wrapper has one warning. -/

namespace Sys2Proof.Machine

/-- BITS_READY (R31, R169): a function of the state, with no storage; reading it has no effect. -/
def State.bitsReady (s : State) : Bool := decide (7 ≤ s.bb.length) && decide (s.run = .running)

/-- The code of an error kind or warning (R179). -/
def ErrorKind.code (k : ErrorKind) : Nat :=
  match k with
  | .emptySignal => 1
  | .silentSignal => 2
  | .sourceFailure => 3
  | .rateMismatch => 4

/-- The number of a mode, where one is needed (R75). -/
def modeNumber (m : Mode) : Nat :=
  match m with
  | .lat => 0
  | .rus => 1
  | .figs => 2

/-- `idx`, the number of a code, where one is needed (R64). -/
def codeIndex (c : Code) : Nat :=
  16 * c.d1.toNat + 8 * c.d2.toNat + 4 * c.d3.toNat + 2 * c.d4.toNat + c.d5.toNat

/-- RateMismatch, the warning of the host's wrapper around BATCH, which knows the source's rate (R175, R183). The block
has no part in it: no operation reads it. -/
noncomputable def rateWarning (cfg : Configuration) (sourceRate : ℝ) : Option ErrorKind :=
  if sourceRate = cfg.params.sampleRate.value then none else some .rateMismatch

end Sys2Proof.Machine
end

