-- ==== Sys2Proof/Machine/Pseudo.lean ====
section
/-! DEFINITION. Sys2Proof/Machine/Pseudo.lean: the writing aids of R78 that need a Codebook. No instruction uses them. -/

namespace Sys2Proof.Machine

/-- The key of a character in a table (R78 (c)). Where the table has the character under several codes, which R78 (c) does
not speak of, it is the first entry's (DESIGN CHOICE, notes/assumptions/21.md). -/
def keyOf (tbl : CodeMap Char) (ch : Char) : Option Code :=
  (tbl.find? fun e => e.2 == ch).map Prod.fst

/-- `encstr(mode, text)` (R78 (c)): the frames of the characters' keys; none where a character has no key. -/
def encStr (tbl : CodeMap Char) : Text → Option (List Bit)
  | [] => some []
  | ch :: rest =>
    match keyOf tbl ch, encStr tbl rest with
    | some c, some bits => some (enc c ++ bits)
    | _, _ => none

end Sys2Proof.Machine
end

