-- ==== Sys2Proof/Safety.lean ====
section
/-! DEFINITION. Sys2Proof/Safety.lean: the terms in which claims about the machine are made: the invariant of its states,
what a history of operations delivered and handed back, and the variant of the synchroniser of R113. -/

namespace Sys2Proof.Machine

/-- Within the first `n` bits stands a whole frame, its stop run counted, whose code the switch table sends to `m`. -/
def SwitchFrameWithin (cb : Codebook) (bits : List Bit) (n : Nat) (m : Mode) : Prop :=
  ∃ (k : Nat) (code : Code) (stop : Nat), k + (6 + stop) ≤ n ∧
    decodeItem (bits.drop k) = .ok (Instr.frameOf code stop) ∧ cb.switch.lookup code = some m

/-- What holds of a state between two steps: fewer samples than one window wait (R32, R161); the working registers hold
nothing unless a POLL is being watched (R28; that they then have the values of `SyncRegs.rest` is the model's choice,
notes/assumptions/8.md, and the watched POLL is, notes/assumptions/1.md); while it is, the session runs, the synchroniser
looks for a start bit, its index is inside BB (R101, R111), and its mode is the session's or the target of a switch frame
among the bits before the index (R123). -/
structure State.Inv (s : State) : Prop where
  window : s.sb.length < s.cfg.params.spb
  resting : s.evaluating = false → s.sync = SyncRegs.rest
  live : s.evaluating = true → s.run = .running ∧ s.sync.control = .seekStart ∧ s.sync.i ≤ s.bb.length
  modeOrigin : s.evaluating = true →
    s.sync.m = s.mode ∨ SwitchFrameWithin s.cfg.params.codebook s.bb s.sync.i s.sync.m

/-- The bits of the whole windows of a sample sequence, from its first sample (R48, R162). -/
def windowBits (p : Params) (xs : List Sample) : List Bit :=
  (List.range (xs.length / p.spb)).map fun k => windowBit p (((xs.drop (k * p.spb)).take p.spb).map sampleValue)

/-- The samples an operation delivers. -/
def deliveredBy (o : PortOp) : List Sample :=
  match o with
  | .reset => []
  | .sample x => [x]
  | .push chunk => chunk
  | .poll => []
  | .batch _ => []
  | .stop => []
  | .abort => []

/-- SAMPLE and PUSH. -/
def deliversSamples (o : PortOp) : Bool :=
  match o with
  | .reset => false
  | .sample _ => true
  | .push _ => true
  | .poll => false
  | .batch _ => false
  | .stop => false
  | .abort => false

/-- SAMPLE, PUSH and POLL: the operations of a session between its start and its end. -/
def withinSession (o : PortOp) : Bool :=
  match o with
  | .reset => false
  | .sample _ => true
  | .push _ => true
  | .poll => true
  | .batch _ => false
  | .stop => false
  | .abort => false

/-- The characters of one response that are part of the cumulative output (R45). -/
def fragmentOf (x : Response) : Text :=
  match x with
  | .fragment t => t
  | .decoded _ => []
  | .error _ => []
  | .synced _ _ _ => []
  | .executed _ _ => []
  | .formatted _ => []

/-- The cumulative output (R45): the concatenation of the fragments in order. -/
def cumulativeText (xs : List Response) : Text := xs.flatMap fragmentOf

/-- `n` host operations served one after another, each by one step. -/
def serve (ops : List PortOp) (s : State) : Host.Outcome State Fault Refusal :=
  Host.Core.run Sys2Proof.core ops.length (s.withPending (ops.map Request.op))

/-- One round of the variant of R113, in which T4 consumes the first stop bit only (`i <- i + 7`). -/
def shortRound (cb : Codebook) (placeholder : Char) (bits : List Bit) (r : SyncRegs) : Option SyncRegs :=
  if bits.length ≤ r.i then none
  else if bitAt bits r.i then some r.t1
  else if bits.length - r.i < 7 then none
  else if bitAt bits (r.i + 6) then
    some { r.attempt cb placeholder (codeAt bits (r.i + 1)) (onesRun (bits.drop (r.i + 6))) with i := r.i + 7 }
  else some (r.attempt cb placeholder (codeAt bits (r.i + 1)) 0)

/-- The loop of the variant. -/
def shortRounds (cb : Codebook) (placeholder : Char) (bits : List Bit) : Nat → SyncRegs → SyncRegs
  | 0, r => r
  | fuel + 1, r =>
    match shortRound cb placeholder bits r with
    | some r' => shortRounds cb placeholder bits fuel r'
    | none => r

/-- `Sync` in the variant of R113. -/
def syncShort (cb : Codebook) (placeholder : Char) (bits : List Bit) (m0 : Mode) : SyncResult :=
  (shortRounds cb placeholder bits bits.length (SyncRegs.start m0)).result

/-- The state after a frame of the given code and stop length, the code's action being `e` (R104 to R106): only the
working registers change. -/
def State.afterFrame (s : State) (code : Code) (stop : Nat) (e : Option Char × Mode) : State :=
  { s with
    sync :=
      { control := .seekStart
        i := s.sync.i + 6 + stop
        data := code
        j := s.sync.i + 6 + stop
        stop := stop
        out := s.sync.out ++ e.1.toList
        m := e.2 } }

/-- A row of the table of literal codes (R71): in a state whose Codebook is CB_DEFAULT, the frame, with any stop length
of at least 1, adds the character of its mode's column and keeps the mode. -/
def literalRow (mk : Nat → Instr) (code : Code) (lat rus figs : Char) : Prop :=
  ∀ (n : Nat) (s : State), 1 ≤ n → s.cfg.params.codebook = cbDefault →
    (s.sync.m = .lat → exec (mk n) s = .next (s.afterFrame code n (some lat, .lat))) ∧
    (s.sync.m = .rus → exec (mk n) s = .next (s.afterFrame code n (some rus, .rus))) ∧
    (s.sync.m = .figs → exec (mk n) s = .next (s.afterFrame code n (some figs, .figs)))

/-- A row of the table of switch codes (R71): from every mode the frame leads to the target and adds no character. -/
def switchRow (mk : Nat → Instr) (code : Code) (target : Mode) : Prop :=
  ∀ (n : Nat) (s : State), 1 ≤ n → s.cfg.params.codebook = cbDefault →
    exec (mk n) s = .next (s.afterFrame code n (none, target))

end Sys2Proof.Machine
end

