-- ==== Sys2Proof/Certificates/Slice0/Obligations.lean ====
section
/-! DEFINITION. Sys2Proof/Certificates/Slice0/Obligations.lean: what is claimed of the machine. Each docstring names the
rules a statement rests on, and says where a clause is a choice of the spec or of the model. -/

open Sys2Proof Sys2Proof.Machine

/-- A step of a watched POLL runs the item at the index, or ends the POLL when there is none. What a step does while a POLL is watched item by item; its end is R166. The view is the model's choice, notes/assumptions/1.md (R11 maps "instruction" to an item, R30 "program counter" to `i`), and the values of `SyncRegs.rest` are, notes/assumptions/8.md. -/
def Obligations.StepRunsFetchedItemOrEndsPoll : Prop :=
  ∀ s : State, s.evaluating = true →
    (∀ i, fetchItem s = .ok i → step s = exec i s) ∧
    (∀ e, fetchItem s = .error e → step s = .next
      { s with
        bb := s.bb.drop s.sync.i
        mode := s.sync.m
        returned := s.returned ++ [.fragment (if s.cfg.params.fmt then formatText s.sync.out else s.sync.out)]
        sync := SyncRegs.rest
        evaluating := false })

/-- A step serves a port operation or BITS whole, opens a watched POLL, and with no request the block is inert. What a step does between operations: R51 (whole operations), R53 (one at a time), R197 (inert otherwise), BITS of R77, the gate of R166. The list of requests is the model's choice, notes/assumptions/10.md; the watched POLL (pollByItems) is, notes/assumptions/1.md; that a refused operation is a next state is its reading, notes/assumptions/12.md. -/
def Obligations.StepServesNextRequest : Prop :=
  ∀ s : State, s.evaluating = false →
    (s.pending = [] → step s = .next s) ∧
    (∀ o rest, s.pending = .op o :: rest → step s = exec (portInstr o) { s with pending := rest }) ∧
    (∀ bs rest, s.pending = .bits bs :: rest →
      (s.run = .running → step s = .next { s with pending := rest, bb := s.bb ++ bs }) ∧
      (s.run = .stopped → step s = .next { s with pending := rest })) ∧
    (∀ rest, s.pending = .pollByItems :: rest →
      (s.run = .stopped → step s = .next { s with pending := rest }) ∧
      (s.run = .running → s.bb.length < 7 →
        step s = .next { s with pending := rest, returned := s.returned ++ [.fragment []] }) ∧
      (s.run = .running → 7 ≤ s.bb.length →
        step s = .next { s with pending := rest, sync := SyncRegs.start s.mode, evaluating := true }))

/-- Every instruction and every step answers a next state. R187: "Nothing else fails"; the error kinds are values handed back (R190). That an operation refused by R159 is a next state is the model's reading, notes/assumptions/12.md; that there is no fault is, notes/assumptions/13.md. -/
def Obligations.EveryInstructionAndStepAnswersNext : Prop :=
  (∀ (i : Instr) (s : State), ∃ t, exec i s = .next t) ∧ (∀ s : State, ∃ t, step s = .next t)

/-- T1: a 1 met while looking for a start bit is passed over, whatever follows it. R103 (T1); its clause about step is about a watched POLL, the model's choice, notes/assumptions/1.md. -/
def Obligations.IdleBitIsPassedOver : Prop :=
  (∀ s : State, exec .idle s = .next { s with sync := { s.sync with i := s.sync.i + 1, control := .seekStart } }) ∧
    (∀ s : State, s.evaluating = true → s.bb[s.sync.i]? = some true →
      step s = .next { s with sync := { s.sync with i := s.sync.i + 1, control := .seekStart } }) ∧
    (∀ (cb : Codebook) (ph : Char) (m : Mode), syncBits cb ph [true, true, true] m = ⟨[], 3, m⟩)

/-- T5: a start bit whose seventh bit is 0 costs one bit, emits nothing and keeps the mode. T2, T3 and T5 (R104, R105, R107); its clause about step is about a watched POLL, the model's choice, notes/assumptions/1.md. -/
def Obligations.FalseStartConsumesOneBit : Prop :=
  (∀ (d : Code) (s : State), exec (.falseStart d) s = .next
      { s with sync := { s.sync with
          i := s.sync.i + 1, data := d, j := s.sync.i + 6, stop := 0, control := .seekStart } }) ∧
    (∀ (d : Code) (rest : List Bit) (s : State), s.evaluating = true →
      s.bb.drop s.sync.i = false :: (d.toList ++ false :: rest) → step s = .next
      { s with sync := { s.sync with
          i := s.sync.i + 1, data := d, j := s.sync.i + 6, stop := 0, control := .seekStart } }) ∧
    (∀ (cb : Codebook) (ph : Char) (m : Mode), syncBits cb ph (List.replicate 7 false) m = ⟨[], 1, m⟩)

/-- T4: a frame switches the mode, or emits its character or the placeholder, and is consumed with its whole stop run. R106 (T4, after T2 and T3) with the three ways of R120, R121, R122, for every Codebook and every mode, as a step of a watched POLL, which is the model's choice, notes/assumptions/1.md. -/
def Obligations.FrameRunsItsCodeAndConsumesItsStopRun : Prop :=
  ∀ (c : Code) (n : Nat) (rest : List Bit) (s : State), s.evaluating = true → 1 ≤ n → rest.head? ≠ some true →
    s.bb.drop s.sync.i = false :: (c.toList ++ List.replicate n true ++ rest) →
    (∀ target, s.cfg.params.codebook.switch.lookup c = some target → step s = .next
      { s with sync := ⟨.seekStart, s.sync.i + 6 + n, c, s.sync.i + 6 + n, n, s.sync.out, target⟩ }) ∧
    (∀ ch, s.cfg.params.codebook.switch.lookup c = none →
      (s.cfg.params.codebook.table s.sync.m).lookup c = some ch → step s = .next
      { s with sync := ⟨.seekStart, s.sync.i + 6 + n, c, s.sync.i + 6 + n, n, s.sync.out ++ [ch], s.sync.m⟩ }) ∧
    (s.cfg.params.codebook.switch.lookup c = none → (s.cfg.params.codebook.table s.sync.m).lookup c = none →
      step s = .next
      { s with sync := ⟨.seekStart, s.sync.i + 6 + n, c, s.sync.i + 6 + n, n,
          s.sync.out ++ [s.cfg.params.placeholder], s.sync.m⟩ })

/-- Each of the 32 frame instructions executes its own code, from every state and for every stop length of at least 1. R106 and R119 for all 32 constructors by name: exec answers a next state for each, with its frame. -/
def Obligations.EveryFrameInstructionExecutesItsOwnCode : Prop :=
  ∀ (n : Nat) (s : State), 1 ≤ n →
    let cb := s.cfg.params.codebook
    let ph := s.cfg.params.placeholder
    exec (.frame00000 n) s = .next (s.afterFrame (Code.of 0 0 0 0 0) n (execCode cb ph (Code.of 0 0 0 0 0) s.sync.m)) ∧
    exec (.frame00001 n) s = .next (s.afterFrame (Code.of 0 0 0 0 1) n (execCode cb ph (Code.of 0 0 0 0 1) s.sync.m)) ∧
    exec (.frame00010 n) s = .next (s.afterFrame (Code.of 0 0 0 1 0) n (execCode cb ph (Code.of 0 0 0 1 0) s.sync.m)) ∧
    exec (.frame00011 n) s = .next (s.afterFrame (Code.of 0 0 0 1 1) n (execCode cb ph (Code.of 0 0 0 1 1) s.sync.m)) ∧
    exec (.frame00100 n) s = .next (s.afterFrame (Code.of 0 0 1 0 0) n (execCode cb ph (Code.of 0 0 1 0 0) s.sync.m)) ∧
    exec (.frame00101 n) s = .next (s.afterFrame (Code.of 0 0 1 0 1) n (execCode cb ph (Code.of 0 0 1 0 1) s.sync.m)) ∧
    exec (.frame00110 n) s = .next (s.afterFrame (Code.of 0 0 1 1 0) n (execCode cb ph (Code.of 0 0 1 1 0) s.sync.m)) ∧
    exec (.frame00111 n) s = .next (s.afterFrame (Code.of 0 0 1 1 1) n (execCode cb ph (Code.of 0 0 1 1 1) s.sync.m)) ∧
    exec (.frame01000 n) s = .next (s.afterFrame (Code.of 0 1 0 0 0) n (execCode cb ph (Code.of 0 1 0 0 0) s.sync.m)) ∧
    exec (.frame01001 n) s = .next (s.afterFrame (Code.of 0 1 0 0 1) n (execCode cb ph (Code.of 0 1 0 0 1) s.sync.m)) ∧
    exec (.frame01010 n) s = .next (s.afterFrame (Code.of 0 1 0 1 0) n (execCode cb ph (Code.of 0 1 0 1 0) s.sync.m)) ∧
    exec (.frame01011 n) s = .next (s.afterFrame (Code.of 0 1 0 1 1) n (execCode cb ph (Code.of 0 1 0 1 1) s.sync.m)) ∧
    exec (.frame01100 n) s = .next (s.afterFrame (Code.of 0 1 1 0 0) n (execCode cb ph (Code.of 0 1 1 0 0) s.sync.m)) ∧
    exec (.frame01101 n) s = .next (s.afterFrame (Code.of 0 1 1 0 1) n (execCode cb ph (Code.of 0 1 1 0 1) s.sync.m)) ∧
    exec (.frame01110 n) s = .next (s.afterFrame (Code.of 0 1 1 1 0) n (execCode cb ph (Code.of 0 1 1 1 0) s.sync.m)) ∧
    exec (.frame01111 n) s = .next (s.afterFrame (Code.of 0 1 1 1 1) n (execCode cb ph (Code.of 0 1 1 1 1) s.sync.m)) ∧
    exec (.frame10000 n) s = .next (s.afterFrame (Code.of 1 0 0 0 0) n (execCode cb ph (Code.of 1 0 0 0 0) s.sync.m)) ∧
    exec (.frame10001 n) s = .next (s.afterFrame (Code.of 1 0 0 0 1) n (execCode cb ph (Code.of 1 0 0 0 1) s.sync.m)) ∧
    exec (.frame10010 n) s = .next (s.afterFrame (Code.of 1 0 0 1 0) n (execCode cb ph (Code.of 1 0 0 1 0) s.sync.m)) ∧
    exec (.frame10011 n) s = .next (s.afterFrame (Code.of 1 0 0 1 1) n (execCode cb ph (Code.of 1 0 0 1 1) s.sync.m)) ∧
    exec (.frame10100 n) s = .next (s.afterFrame (Code.of 1 0 1 0 0) n (execCode cb ph (Code.of 1 0 1 0 0) s.sync.m)) ∧
    exec (.frame10101 n) s = .next (s.afterFrame (Code.of 1 0 1 0 1) n (execCode cb ph (Code.of 1 0 1 0 1) s.sync.m)) ∧
    exec (.frame10110 n) s = .next (s.afterFrame (Code.of 1 0 1 1 0) n (execCode cb ph (Code.of 1 0 1 1 0) s.sync.m)) ∧
    exec (.frame10111 n) s = .next (s.afterFrame (Code.of 1 0 1 1 1) n (execCode cb ph (Code.of 1 0 1 1 1) s.sync.m)) ∧
    exec (.frame11000 n) s = .next (s.afterFrame (Code.of 1 1 0 0 0) n (execCode cb ph (Code.of 1 1 0 0 0) s.sync.m)) ∧
    exec (.frame11001 n) s = .next (s.afterFrame (Code.of 1 1 0 0 1) n (execCode cb ph (Code.of 1 1 0 0 1) s.sync.m)) ∧
    exec (.frame11010 n) s = .next (s.afterFrame (Code.of 1 1 0 1 0) n (execCode cb ph (Code.of 1 1 0 1 0) s.sync.m)) ∧
    exec (.frame11011 n) s = .next (s.afterFrame (Code.of 1 1 0 1 1) n (execCode cb ph (Code.of 1 1 0 1 1) s.sync.m)) ∧
    exec (.frame11100 n) s = .next (s.afterFrame (Code.of 1 1 1 0 0) n (execCode cb ph (Code.of 1 1 1 0 0) s.sync.m)) ∧
    exec (.frame11101 n) s = .next (s.afterFrame (Code.of 1 1 1 0 1) n (execCode cb ph (Code.of 1 1 1 0 1) s.sync.m)) ∧
    exec (.frame11110 n) s = .next (s.afterFrame (Code.of 1 1 1 1 0) n (execCode cb ph (Code.of 1 1 1 1 0) s.sync.m)) ∧
    exec (.frame11111 n) s = .next (s.afterFrame (Code.of 1 1 1 1 1) n (execCode cb ph (Code.of 1 1 1 1 1) s.sync.m))

/-- With CB_DEFAULT the three switch frames lead to RUS, FIGS and LAT from every mode and emit nothing. The switch rows of CB_DEFAULT (R127, R154, R158), PRESUMED content: notes/assumptions/7.md. -/
def Obligations.DefaultCodebookSwitchFrames : Prop :=
  switchRow .frame00000 (Code.of 0 0 0 0 0) .rus ∧
  switchRow .frame11011 (Code.of 1 1 0 1 1) .figs ∧
  switchRow .frame11111 (Code.of 1 1 1 1 1) .lat

/-- With CB_DEFAULT each of 28 literal frames emits the character of its mode's column and keeps the mode. The literal rows of CB_DEFAULT (R128 to R157 but for R145 and R154), PRESUMED content: notes/assumptions/7.md. -/
def Obligations.DefaultCodebookLiteralFrames : Prop :=
  literalRow .frame00001 (Code.of 0 0 0 0 1) 'T' 'Т' '5' ∧
  literalRow .frame00010 (Code.of 0 0 0 1 0) '\r' '\r' '\r' ∧
  literalRow .frame00011 (Code.of 0 0 0 1 1) 'O' 'О' '9' ∧
  literalRow .frame00100 (Code.of 0 0 1 0 0) ' ' ' ' ' ' ∧
  literalRow .frame00101 (Code.of 0 0 1 0 1) 'H' 'Х' 'Щ' ∧
  literalRow .frame00110 (Code.of 0 0 1 1 0) 'N' 'Н' ',' ∧
  literalRow .frame00111 (Code.of 0 0 1 1 1) 'M' 'М' '.' ∧
  literalRow .frame01000 (Code.of 0 1 0 0 0) '\n' '\n' '\n' ∧
  literalRow .frame01001 (Code.of 0 1 0 0 1) 'L' 'Л' ')' ∧
  literalRow .frame01010 (Code.of 0 1 0 1 0) 'R' 'Р' '4' ∧
  literalRow .frame01011 (Code.of 0 1 0 1 1) 'G' 'Г' 'Ш' ∧
  literalRow .frame01100 (Code.of 0 1 1 0 0) 'I' 'И' '8' ∧
  literalRow .frame01101 (Code.of 0 1 1 0 1) 'P' 'П' '0' ∧
  literalRow .frame01110 (Code.of 0 1 1 1 0) 'C' 'Ц' ':' ∧
  literalRow .frame01111 (Code.of 0 1 1 1 1) 'V' 'Ж' '=' ∧
  literalRow .frame10000 (Code.of 1 0 0 0 0) 'E' 'Е' '3' ∧
  literalRow .frame10001 (Code.of 1 0 0 0 1) 'Z' 'З' '+' ∧
  literalRow .frame10011 (Code.of 1 0 0 1 1) 'B' 'Б' '?' ∧
  literalRow .frame10100 (Code.of 1 0 1 0 0) 'S' 'С' '\'' ∧
  literalRow .frame10101 (Code.of 1 0 1 0 1) 'Y' 'Ы' '6' ∧
  literalRow .frame10110 (Code.of 1 0 1 1 0) 'F' 'Ф' 'Э' ∧
  literalRow .frame10111 (Code.of 1 0 1 1 1) 'X' 'Ь' '/' ∧
  literalRow .frame11000 (Code.of 1 1 0 0 0) 'A' 'А' '-' ∧
  literalRow .frame11001 (Code.of 1 1 0 0 1) 'W' 'В' '2' ∧
  literalRow .frame11010 (Code.of 1 1 0 1 0) 'J' 'Й' 'Ю' ∧
  literalRow .frame11100 (Code.of 1 1 1 0 0) 'U' 'У' '7' ∧
  literalRow .frame11101 (Code.of 1 1 1 0 1) 'Q' 'Я' '1' ∧
  literalRow .frame11110 (Code.of 1 1 1 1 0) 'K' 'К' '('

/-- With CB_DEFAULT code 10010 is a letter in LAT and RUS and gives the placeholder in FIGS. R145, the one unmapped code of CB_DEFAULT (D38), PRESUMED content: notes/assumptions/7.md. It holds for every value of PLACEHOLDER. -/
def Obligations.DefaultCodebookUnmappedFrame : Prop :=
  ∀ (n : Nat) (s : State), 1 ≤ n → s.cfg.params.codebook = cbDefault →
    (s.sync.m = .lat → exec (.frame10010 n) s = .next (s.afterFrame (Code.of 1 0 0 1 0) n (some 'D', .lat))) ∧
    (s.sync.m = .rus → exec (.frame10010 n) s = .next (s.afterFrame (Code.of 1 0 0 1 0) n (some 'Д', .rus))) ∧
    (s.sync.m = .figs →
      exec (.frame10010 n) s = .next (s.afterFrame (Code.of 1 0 0 1 0) n (some s.cfg.params.placeholder, .figs)))

/-- The attested switch code 11011 leads to FIGS from every mode and emits nothing. R154, whose entry the document attests. An entry in a mode table is never read. That EXEC run as an instruction hands back a record is the model's choice, notes/assumptions/16.md. -/
def Obligations.FigsSwitchCodeEmitsNothing : Prop :=
  (∀ (n : Nat) (s : State), 1 ≤ n → s.cfg.params.codebook.switch.lookup (Code.of 1 1 0 1 1) = some .figs →
      exec (.frame11011 n) s = .next (s.afterFrame (Code.of 1 1 0 1 1) n (none, .figs)) ∧
      ∀ m, exec (.exec (Code.of 1 1 0 1 1) m) s = .next { s with returned := s.returned ++ [.executed none .figs] }) ∧
    cbDefault.switch.lookup (Code.of 1 1 0 1 1) = some .figs ∧
    cbSrc.switch.lookup (Code.of 1 1 0 1 1) = some .figs ∧
    (∀ ph, syncBits cbDefault ph (enc (Code.of 1 1 0 1 1) ++ enc (Code.of 0 0 0 0 1)) .lat = ⟨['5'], 16, .figs⟩) ∧
    (∀ ph, syncBits cbSrc ph (enc (Code.of 1 1 0 1 1) ++ enc (Code.of 0 0 0 0 1)) .lat = ⟨['5'], 16, .figs⟩)

/-- EXEC: the switch table first, then the table of the mode on entry, else the placeholder. R120, R121, R122, for every Codebook. That EXEC run as an instruction hands back a record and changes nothing else is the model's choice, notes/assumptions/16.md. -/
def Obligations.ExecLooksUpSwitchThenModeTable : Prop :=
  ∀ (code : Code) (m : Mode) (s : State),
    (∀ target, s.cfg.params.codebook.switch.lookup code = some target →
      exec (.exec code m) s = .next { s with returned := s.returned ++ [.executed none target] }) ∧
    (∀ ch, s.cfg.params.codebook.switch.lookup code = none → (s.cfg.params.codebook.table m).lookup code = some ch →
      exec (.exec code m) s = .next { s with returned := s.returned ++ [.executed (some ch) m] }) ∧
    (s.cfg.params.codebook.switch.lookup code = none → (s.cfg.params.codebook.table m).lookup code = none →
      exec (.exec code m) s = .next
        { s with returned := s.returned ++ [.executed (some s.cfg.params.placeholder) m] })

/-- SYNC answers a next state in which only its three results have been handed back. R100: `Sync` "reads or writes no state of the instance". The record is the model's choice, notes/assumptions/16.md. -/
def Obligations.SyncInstructionHandsBackItsResult : Prop :=
  ∀ (bits : List Bit) (m0 : Mode) (s : State),
    let r := syncBits s.cfg.params.codebook s.cfg.params.placeholder bits m0
    exec (.sync bits m0) s = .next { s with returned := s.returned ++ [.synced r.text r.consumed r.mode] }

/-- FORMAT replaces carriage returns by newlines and keeps one of each run of newlines. R167, with the code points of D15. That FORMAT run as an instruction hands back a record and changes nothing else is the model's choice, notes/assumptions/16.md. -/
def Obligations.FormatReplacesAndCollapsesNewlines : Prop :=
  ∀ (t : Text) (s : State),
    let u := (t.map fun c => if c = '\r' then '\n' else c).destutter fun a b => ¬(a = '\n' ∧ b = '\n')
    exec (.format t) s = .next { s with returned := s.returned ++ [.formatted u] } ∧
    '\r' ∉ u ∧ u.IsChain (fun a b => ¬(a = '\n' ∧ b = '\n')) ∧
    (u.filter fun c => c ≠ '\n') = t.filter fun c => c ≠ '\n' ∧ c ≠ '\r'

/-- DEMOD takes one window from the front of SB and appends its bit to BB, when a whole window waits. R84. `windowBit` is Disc (R79) under the block's own NUMERICS (R94). -/
def Obligations.DemodMovesOneWindowToOneBit : Prop :=
  ∀ s : State,
    (s.cfg.params.spb ≤ s.sb.length → exec .demod s = .next
      { s with
        sb := s.sb.drop s.cfg.params.spb
        bb := s.bb ++ [windowBit s.cfg.params ((s.sb.take s.cfg.params.spb).map fun x => (x.toInt : ℝ))] }) ∧
    (s.sb.length = s.cfg.params.spb → ∃ t, exec .demod s = .next t ∧ t.sb = []) ∧
    (s.sb.length < s.cfg.params.spb → exec .demod s = .next s)

/-- Disc is 1 exactly when the mark energy is strictly the greater. R90, for every NUMERICS of R94, and for a block of R8's default NUMERICS and EDGE: that it computes with the reference is R94 and D7, the spec's own decision, and the reference is PRESUMED, notes/assumptions/15.md. -/
def Obligations.DiscComparesBandEnergiesStrictly : Prop :=
  (∀ (num : Numerics) (f : FilterConfig) (trimLen : Nat) (seg : List ℝ),
      let u := seg.drop trimLen
      (num.gt (num.energy f .mark u) (num.energy f .space u) = true → disc num f trimLen seg = true) ∧
      (num.gt (num.energy f .mark u) (num.energy f .space u) = false → disc num f trimLen seg = false) ∧
      (num.energy f .mark u = num.energy f .space u → disc num f trimLen seg = false)) ∧
    (∀ p : Params, p.numerics = .exact → p.edge = .zeroState →
      (∀ seg, windowBit p seg = true ↔
        refEnergy p.filter .space (seg.drop p.trimLen) < refEnergy p.filter .mark (seg.drop p.trimLen)) ∧
      windowBit p [] = false)

/-- The reference energy is a non-negative sum over as many filtered samples as the segment has. R87 and R89, about the reference definition (its design is the spec's own choice, D34; notes/assumptions/15.md). -/
def Obligations.ReferenceEnergyIsSumOfSquares : Prop :=
  ∀ (f : FilterConfig) (b : Band) (u : List ℝ),
    (refZeroPhase f b u).length = u.length ∧ 0 ≤ refEnergy f b u ∧
    refEnergy f b u = ((refFilter f b (refFilter f b u).reverse).map fun y => y ^ 2).sum ∧
    refEnergy f b [] = 0

/-- In the reference arithmetic a positive scaling of a window changes no bit. R93, about the reference definition (notes/assumptions/15.md); the spec marks it as derived. -/
def Obligations.ReferenceDiscIsScaleInvariant : Prop :=
  ∀ (f : FilterConfig) (trimLen : Nat) (seg : List ℝ) (c : ℝ), 0 < c →
    (∀ b, refEnergy f b (seg.map fun x => c * x) = c ^ 2 * refEnergy f b seg) ∧
    disc refNumerics f trimLen (seg.map fun x => c * x) = disc refNumerics f trimLen seg

/-- In the reference arithmetic a silent window has no energy and gives bit 0. R96, about the reference definition (notes/assumptions/15.md); the spec marks it as derived. -/
def Obligations.ReferenceSilenceGivesSpace : Prop :=
  ∀ (f : FilterConfig) (trimLen n : Nat),
    (∀ b, refEnergy f b (List.replicate n 0) = 0) ∧ disc refNumerics f trimLen (List.replicate n 0) = false

/-- Sync is determined by five equations, one for each way the bits can begin. R103 to R110. The tail test is D18, the spec's own decision. -/
def Obligations.SyncFollowsItsTransitions : Prop :=
  ∀ (cb : Codebook) (ph : Char) (m : Mode),
    syncBits cb ph [] m = ⟨[], 0, m⟩ ∧
    (∀ b, syncBits cb ph (true :: b) m =
      ⟨(syncBits cb ph b m).text, (syncBits cb ph b m).consumed + 1, (syncBits cb ph b m).mode⟩) ∧
    (∀ b, b.length < 6 → syncBits cb ph (false :: b) m = ⟨[], 0, m⟩) ∧
    (∀ (c : Code) (b : List Bit), syncBits cb ph (false :: (c.toList ++ false :: b)) m =
      ⟨(syncBits cb ph (c.toList ++ false :: b) m).text, (syncBits cb ph (c.toList ++ false :: b) m).consumed + 1,
        (syncBits cb ph (c.toList ++ false :: b) m).mode⟩) ∧
    (∀ (c : Code) (b : List Bit),
      let e := execCode cb ph c m
      let r := syncBits cb ph (b.drop (onesRun b)) e.2
      syncBits cb ph (false :: (c.toList ++ true :: b)) m = ⟨e.1.toList ++ r.text, 7 + onesRun b + r.consumed, r.mode⟩)

/-- What Sync leaves is nothing, or a 0 followed by at most five bits. R111, which the spec marks as derived. -/
def Obligations.SyncLeavesOnlyAnIncompleteFrame : Prop :=
  ∀ (cb : Codebook) (ph : Char) (bits : List Bit) (m0 : Mode),
    let r := syncBits cb ph bits m0
    r.consumed ≤ bits.length ∧
    (bits.drop r.consumed = [] ∨ ((bits.drop r.consumed).head? = some false ∧ (bits.drop r.consumed).length ≤ 6)) ∧
    ∀ m, syncBits cb ph (bits.drop r.consumed) m = ⟨[], 0, m⟩

/-- Parsing a stream in two parts, carrying over the rest and the mode, equals parsing it at once. R114, the determinism law on the synchroniser; the spec marks it as derived. -/
def Obligations.SyncIsChunkInvariant : Prop :=
  ∀ (cb : Codebook) (ph : Char) (b1 b2 : List Bit) (m0 : Mode),
    let r1 := syncBits cb ph b1 m0
    let r2 := syncBits cb ph (b1.drop r1.consumed ++ b2) r1.mode
    syncBits cb ph (b1 ++ b2) m0 = ⟨r1.text ++ r2.text, r1.consumed + r2.consumed, r2.mode⟩

/-- Consuming only the first stop bit of a frame gives the same text, count and mode. R113, which the spec marks as derived. -/
def Obligations.ConsumingOneStopBitGivesTheSameResult : Prop :=
  ∀ (cb : Codebook) (ph : Char) (bits : List Bit) (m0 : Mode), syncShort cb ph bits m0 = syncBits cb ph bits m0

/-- Text encoded frame by frame from a mode's table is decoded back exactly. R116, the round-trip law; the spec marks it as derived. Which code the encoder takes for a character with several is the model's choice, notes/assumptions/21.md. -/
def Obligations.EncodedTextRoundTrips : Prop :=
  ∀ (cb : Codebook) (ph : Char) (m0 : Mode) (t : Text) (bits : List Bit),
    ((cb.table m0).map Prod.fst).Nodup →
    (∀ ch ∈ t, ∀ c, keyOf (cb.table m0) ch = some c → cb.switch.lookup c = none) →
    encStr (cb.table m0) t = some bits →
    syncBits cb ph bits m0 = ⟨t, 8 * t.length, m0⟩

/-- A spurious 0 before a frame costs one bit when the frame's fifth data bit is 0, and else makes a wrong frame. R115 (C3 restricts the document's claim); the spec marks it as derived. -/
def Obligations.SpuriousZeroIsHarmlessOnlyBeforeFifthBitZero : Prop :=
  ∀ (cb : Codebook) (ph : Char) (m0 : Mode) (c : Code) (n : Nat) (rest : List Bit), 1 ≤ n →
    (c.d5 = false →
      let r := syncBits cb ph (encS c n ++ rest) m0
      syncBits cb ph (false :: (encS c n ++ rest)) m0 = ⟨r.text, r.consumed + 1, r.mode⟩) ∧
    (c.d5 = true → rest.head? ≠ some true →
      let e := execCode cb ph ⟨false, c.d1, c.d2, c.d3, c.d4⟩ m0
      let r := syncBits cb ph rest e.2
      syncBits cb ph (false :: (encS c n ++ rest)) m0 = ⟨e.1.toList ++ r.text, 7 + n + r.consumed, r.mode⟩)

/-- The mode Sync ends in is the one it began in, or the target of a switch frame among the consumed bits. R123: the mode is "mutated only by mode-switch codes". -/
def Obligations.SyncModeComesFromASwitchFrame : Prop :=
  (∀ (cb : Codebook) (ph : Char) (bits : List Bit) (m0 : Mode),
      let r := syncBits cb ph bits m0
      r.mode = m0 ∨ SwitchFrameWithin cb bits r.consumed r.mode) ∧
    (∀ (cb : Codebook) (ph : Char) (c : Code) (m : Mode), cb.switch.lookup c = none → (execCode cb ph c m).2 = m)

/-- A step of a watched POLL advances the index by the item's length, 1, 1 or 6 + stop, and changes only the working registers. R112 and R59, as a step of a watched POLL, which is the model's choice, notes/assumptions/1.md; the spec marks R112 as derived. -/
def Obligations.ItemStepAdvancesByItsLength : Prop :=
  ∀ (s : State) (i : Instr), s.evaluating = true → fetchItem s = .ok i →
    ∃ r : SyncRegs, step s = .next { s with sync := r } ∧ r.i = s.sync.i + consumedBits i ∧ r.i ≤ s.bb.length ∧
      r.control = .seekStart ∧ ∃ e : Option Char, r.out = s.sync.out ++ e.toList

/-- A POLL run item by item reaches the state that the atomic POLL reaches in one step. R51 and R166 against R11: the two grains agree. The view is the model's choice, notes/assumptions/1.md. -/
def Obligations.WatchedPollEqualsAtomicPoll : Prop :=
  ∀ s : State, s.run = .running → s.evaluating = false → s.sync = SyncRegs.rest → 7 ≤ s.bb.length →
    ∃ (k : Nat) (t : State), Host.Core.run Sys2Proof.core k s.openEvaluation = .next t ∧ exec .poll s = .next t

/-- RESET sets MODE, RUN, SB and BB to their reset values, keeps the Configuration, and is idempotent. R39, R160, R199, R200. That RESET exists and clears both backlogs is D23, the spec's own decision. The values of `SyncRegs.rest`, where R39 gives none, are the model's choice, notes/assumptions/8.md, and `evaluating` is, notes/assumptions/1.md. -/
def Obligations.ResetGivesResetValuesAndKeepsConfiguration : Prop :=
  (∀ s : State, exec .reset s = .next
      { s with mode := .lat, run := .running, sb := [], bb := [], sync := SyncRegs.rest, evaluating := false }) ∧
    (∀ s t : State, exec .reset s = .next t → exec .reset t = .next t) ∧
    State.reset.mode = .lat ∧ State.reset.run = .running ∧ State.reset.sb = [] ∧ State.reset.bb = [] ∧
    State.reset.bitsReady = false

/-- SAMPLE stores its sample, and the sample that completes a window empties SB and adds one bit. R161. SAMPLE as a primitive is D24, the spec's own decision. -/
def Obligations.SampleStoresOrCompletesAWindow : Prop :=
  ∀ (x : Sample) (s : State), s.run = .running → s.sb.length < s.cfg.params.spb →
    (s.sb.length + 1 < s.cfg.params.spb → exec (.sample x) s = .next { s with sb := s.sb ++ [x] }) ∧
    (s.sb.length + 1 = s.cfg.params.spb → exec (.sample x) s = .next
      { s with sb := [], bb := s.bb ++ [windowBit s.cfg.params ((s.sb ++ [x]).map sampleValue)] })

/-- PUSH turns every whole window into one bit, in order, and keeps the remainder. R163 for every chunk and every arithmetic; that its truncation drops no sample is R164, which the spec marks as derived. -/
def Obligations.PushDemodulatesEveryWholeWindow : Prop :=
  (∀ (chunk : List Sample) (s : State), s.run = .running →
      let xs := s.sb ++ chunk
      exec (.push chunk) s = .next
        { s with
          sb := xs.drop (xs.length / s.cfg.params.spb * s.cfg.params.spb)
          bb := s.bb ++ windowBits s.cfg.params xs }) ∧
    (∀ s : State, s.run = .running → s.sb.length < s.cfg.params.spb → exec (.push []) s = .next s)

/-- PUSH of a chunk equals SAMPLE of its elements in order. R165, which the spec marks as derived. -/
def Obligations.PushEqualsItsSamplesOneByOne : Prop :=
  ∀ (chunk : List Sample) (s : State), s.run = .running → s.sb.length < s.cfg.params.spb →
    chunk.foldl (fun o x =>
      match o with
      | .next t => exec (.sample x) t
      | .fault f => .fault f
      | .refused r => .refused r) (.next s) = exec (.push chunk) s

/-- However samples are divided into operations, window k is samples k*SPB to (k+1)*SPB - 1. R162 and R48; the spec marks R162 as derived. The list of requests through which `serve` issues the operations is the model's choice, notes/assumptions/10.md. -/
def Obligations.WindowBoundariesDependOnlyOnSampleCount : Prop :=
  ∀ (ops : List PortOp) (s : State), s.run = .running → s.evaluating = false → s.sb.length < s.cfg.params.spb →
    (∀ o ∈ ops, deliversSamples o = true) →
    let xs := s.sb ++ ops.flatMap deliveredBy
    ∃ t, serve ops s = .next t ∧ t.bb = s.bb ++ windowBits s.cfg.params xs ∧
      t.sb = xs.drop (xs.length / s.cfg.params.spb * s.cfg.params.spb) ∧ t.sb.length = xs.length % s.cfg.params.spb ∧
      t.pending = [] ∧ t.mode = s.mode ∧ t.run = s.run ∧ t.returned = s.returned

/-- POLL: below 7 bits an empty fragment and no change, else one Sync over BB, its prefix removed, its mode stored. R166, with its corner cases and its example. -/
def Obligations.PollReturnsOneFragment : Prop :=
  (∀ s : State, s.run = .running → s.bb.length < 7 →
      exec .poll s = .next { s with returned := s.returned ++ [.fragment []] }) ∧
    (∀ s : State, s.run = .running → 7 ≤ s.bb.length →
      let r := syncBits s.cfg.params.codebook s.cfg.params.placeholder s.bb s.mode
      let t : State :=
        { s with
          bb := s.bb.drop r.consumed
          mode := r.mode
          returned := s.returned ++ [.fragment (if s.cfg.params.fmt then formatText r.text else r.text)] }
      exec .poll s = .next t ∧
      (t.bb = [] ∨ (t.bb.head? = some false ∧ t.bb.length ≤ 6)) ∧
      exec .poll t = .next { t with returned := t.returned ++ [.fragment []] }) ∧
    (∀ s : State, s.run = .running → s.mode = .lat → s.bb = [false, true, true, false, false, false, true, true] →
      s.cfg.params.codebook.switch.lookup (Code.of 1 1 0 0 0) = none →
      s.cfg.params.codebook.lat.lookup (Code.of 1 1 0 0 0) = some 'A' →
      exec .poll s = .next { s with bb := [], returned := s.returned ++ [.fragment ['A']] })

/-- BITS_READY says exactly when POLL runs the synchroniser, and after a POLL it is false. R31, R169 (D21, the spec's own decision). -/
def Obligations.PollLeavesBitsReadyFalse : Prop :=
  (∀ s : State, s.bitsReady = true ↔ 7 ≤ s.bb.length ∧ s.run = .running) ∧
    (∀ s t : State, exec .poll s = .next t → t.bitsReady = false) ∧
    (∀ s : State, s.bitsReady = true →
      let r := syncBits s.cfg.params.codebook s.cfg.params.placeholder s.bb s.mode
      exec .poll s = .next
        { s with
          bb := s.bb.drop r.consumed
          mode := r.mode
          returned := s.returned ++ [.fragment (if s.cfg.params.fmt then formatText r.text else r.text)] }) ∧
    (∀ s : State, s.run = .running → s.bitsReady = false →
      exec .poll s = .next { s with returned := s.returned ++ [.fragment []] })

/-- STOP hands back the fragment of one last POLL and stops the session. R173 (D30, the spec's own decision). -/
def Obligations.StopIsOneLastPollThenStopped : Prop :=
  (∀ s : State, s.run = .running → ∃ t, exec .poll s = .next t ∧ exec .stop s = .next { t with run := .stopped }) ∧
    (∀ s : State, s.run = .running → s.bb.length < 7 →
      exec .stop s = .next { s with run := .stopped, returned := s.returned ++ [.fragment []] })

/-- ABORT empties both backlogs, stops the session and hands back SourceFailure without a fragment. R174, R182, R190 (D31, the spec's own decision for SB). -/
def Obligations.AbortDiscardsBacklogsAndReportsSourceFailure : Prop :=
  ∀ s : State, s.run = .running → exec .abort s = .next
    { s with bb := [], sb := [], run := .stopped, returned := s.returned ++ [.error .sourceFailure] }

/-- In a stopped session SAMPLE, PUSH, POLL, STOP and ABORT change nothing and return nothing. R159, R191 (D22, the spec's own decision; notes/assumptions/12.md). -/
def Obligations.StoppedSessionRefusesWithoutChange : Prop :=
  ∀ s : State, s.run = .stopped →
    (∀ x, exec (.sample x) s = .next s) ∧ (∀ chunk, exec (.push chunk) s = .next s) ∧ exec .poll s = .next s ∧
    exec .stop s = .next s ∧ exec .abort s = .next s ∧ (∃ t, exec .reset s = .next t ∧ t.run = .running)

/-- Preprocess fails on an empty and on a silent block, and else divides the first channel by its maximum magnitude. R171, the Preprocessor's contract. -/
def Obligations.PreprocessNormalisesFirstChannelOrFails : Prop :=
  preprocess [] = .error .emptySignal ∧
    (∀ raw : Signal, raw ≠ [] → (∀ f ∈ raw, f.first.value = 0) → preprocess raw = .error .silentSignal) ∧
    (∀ (raw : Signal) (big : ℝ), (∃ f ∈ raw, |f.first.value| = big) → (∀ f ∈ raw, |f.first.value| ≤ big) → big ≠ 0 →
      let x := raw.map fun f => f.first.value / big
      preprocess raw = .ok x ∧ x.length = raw.length ∧ (∀ v ∈ x, -1 ≤ v ∧ v ≤ 1) ∧ ∃ v ∈ x, |v| = 1)

/-- BATCH hands back EmptySignal, SilentSignal, or the unformatted text of one Sync from LAT over the whole signal. R170, R180, R181 (the dropped remainder is D25, the spec's own decision). -/
def Obligations.BatchDecodesOnceFromLatOrReportsError : Prop :=
  ∀ s : State,
    exec (.batch []) s = .next { s with returned := s.returned ++ [.error .emptySignal] } ∧
    (∀ raw : Signal, raw ≠ [] → (∀ f ∈ raw, f.first.value = 0) →
      exec (.batch raw) s = .next { s with returned := s.returned ++ [.error .silentSignal] }) ∧
    (∀ (raw : Signal) (big : ℝ), (∃ f ∈ raw, |f.first.value| = big) → (∀ f ∈ raw, |f.first.value| ≤ big) → big ≠ 0 →
      let x := raw.map fun f => f.first.value / big
      let bits := (List.range (x.length / s.cfg.params.spb)).map fun k =>
        windowBit { s.cfg.params with trim := false } ((x.drop (k * s.cfg.params.spb)).take s.cfg.params.spb)
      exec (.batch raw) s = .next
        { s with returned := s.returned ++
            [.decoded (syncBits s.cfg.params.codebook s.cfg.params.placeholder bits .lat).text] })

/-- BATCH neither disturbs a session nor depends on one. R170: BATCH "Reads and writes no field of ST". -/
def Obligations.BatchIgnoresTheSession : Prop :=
  ∀ (raw : Signal) (s t : State), s.cfg = t.cfg →
    ∃ x : Response, exec (.batch raw) s = .next { s with returned := s.returned ++ [x] } ∧
      exec (.batch raw) t = .next { t with returned := t.returned ++ [x] }

/-- With FMT = 0 the fragments of a session join to the text of one Sync over all its bits, wherever POLLs fall. R176 (b), the determinism law; the spec marks it as derived, and FMT = 0 is D20, its own decision. The list of requests through which `serve` issues the operations is the model's choice, notes/assumptions/10.md. -/
def Obligations.SessionTextEqualsOneSyncOfAllBits : Prop :=
  ∀ (ops : List PortOp) (s : State), s.run = .running → s.evaluating = false → s.cfg.params.fmt = false →
    s.sb.length < s.cfg.params.spb → (∀ o ∈ ops, withinSession o = true) →
    let bits := s.bb ++ windowBits s.cfg.params (s.sb ++ ops.flatMap deliveredBy)
    let r := syncBits s.cfg.params.codebook s.cfg.params.placeholder bits s.mode
    ∃ t, serve (ops ++ [.poll]) s = .next t ∧
      cumulativeText t.returned = cumulativeText s.returned ++ r.text ∧ t.mode = r.mode

/-- Every step keeps the invariant of the machine. R28, R32, R101, R111, R123, R161, R164 as one invariant of every step. The values at rest are the model's choice, notes/assumptions/8.md; the clauses about a watched POLL rest on the model's choice of notes/assumptions/1.md. -/
def Obligations.StepKeepsInvariant : Prop :=
  ∀ s t : State, s.Inv → step s = .next t → t.Inv

/-- The state after reset meets the invariant of the machine. R39 for SB; that the working registers have the values of `SyncRegs.rest` and that no POLL is watched are the model's choices, notes/assumptions/8.md and notes/assumptions/1.md. -/
def Obligations.ResetMeetsInvariant : Prop :=
  State.reset.Inv

/-- A step changes MODE only by a POLL or STOP that consumes a switch frame, or by RESET. R26, R123 over all steps (that a RESET exists is D23, the spec's own decision). The watched POLL and the list of requests are the model's choices, notes/assumptions/1.md and notes/assumptions/10.md. -/
def Obligations.ModeChangesOnlyBySwitchCodeOrReset : Prop :=
  ∀ s t : State, s.Inv → step s = .next t →
    let cb := s.cfg.params.codebook
    t.mode = s.mode ∨
    (s.evaluating = false ∧ (∃ rest, s.pending = .op .poll :: rest ∨ s.pending = .op .stop :: rest) ∧ s.run = .running ∧
      t.bb = s.bb.drop (s.syncWith s.bb s.mode).consumed ∧
      SwitchFrameWithin cb s.bb (s.syncWith s.bb s.mode).consumed t.mode) ∨
    (s.evaluating = true ∧ (∃ e, fetchItem s = .error e) ∧ t.bb = s.bb.drop s.sync.i ∧
      SwitchFrameWithin cb s.bb s.sync.i t.mode) ∨
    (s.evaluating = false ∧ (∃ rest, s.pending = .op .reset :: rest) ∧ t.mode = .lat)

/-- No instruction and no step writes the Configuration. R7, R13, R24, R200. That State holds it is the model's choice, notes/assumptions/2.md. -/
def Obligations.ConfigurationIsNeverWritten : Prop :=
  (∀ (i : Instr) (s t : State), exec i s = .next t → t.cfg = s.cfg) ∧ (∀ s t : State, step s = .next t → t.cfg = s.cfg)

/-- Both backlogs change only at their ends: SB and BB by whole windows of what was delivered, BB by the consumed prefix. R42, R43, R84, R161, R163, R166, R173: append at the back, removal at the front, how much, and by whom. RESET and ABORT empty both (R160, R174). That an operation refused when stopped is a next state is the model's reading, notes/assumptions/12.md. -/
def Obligations.BacklogsChangeOnlyAtTheirEnds : Prop :=
  ∀ (i : Instr) (s t : State), exec i s = .next t → i ≠ .reset → i ≠ .abort →
    let p := s.cfg.params
    (∀ xs : List Sample, (∃ x, i = .sample x ∧ xs = [x]) ∨ i = .push xs → s.run = .running →
      t.sb = (s.sb ++ xs).drop ((s.sb ++ xs).length / p.spb * p.spb) ∧ t.bb = s.bb ++ windowBits p (s.sb ++ xs)) ∧
    (i = .demod → p.spb ≤ s.sb.length →
      t.sb = s.sb.drop p.spb ∧ t.bb = s.bb ++ (windowBits p s.sb).take 1) ∧
    (i = .poll ∨ i = .stop → s.run = .running → 7 ≤ s.bb.length →
      t.sb = s.sb ∧ t.bb = s.bb.drop (s.syncWith s.bb s.mode).consumed) ∧
    ((((∃ x, i = .sample x) ∨ ∃ c, i = .push c) → s.run = .stopped) → (i = .demod → s.sb.length < p.spb) →
      (i = .poll ∨ i = .stop → s.run = .stopped ∨ s.bb.length < 7) → t.sb = s.sb ∧ t.bb = s.bb)

/-- Decoding the bits of a well-formed item gives the item back, whatever follows that does not lengthen a frame's stop run. R59, R60, R61, R65. -/
def Obligations.DecodeReadsBackEveryEncodedItem : Prop :=
  ∀ (i : Instr) (bits rest : List Bit), i.wellFormed = true → encode i = some bits →
    ((∃ c n, i = Instr.frameOf c n) → rest.head? ≠ some true) → decodeItem (bits ++ rest) = .ok i

/-- What the decoder reads is well formed, and its bits stand at the front of the sequence. R59, R60, R61, R65: no bit of an item is dropped or invented. -/
def Obligations.DecodedItemStandsAtTheFront : Prop :=
  ∀ (bits : List Bit) (i : Instr), decodeItem bits = .ok i →
    i.wellFormed = true ∧ 1 ≤ consumedBits i ∧ consumedBits i ≤ bits.length ∧
    ∃ own rest, encode i = some own ∧ bits = own ++ rest ∧
      (∀ c n, i = Instr.frameOf c n → rest.head? ≠ some true)

/-- The decoder rejects no bits as illegal: only the end of the bits, and a 0 with fewer than 7 bits from it. R66, R73, R108 (D18, the spec's own decision). -/
def Obligations.DecoderRejectsOnlyTheEndAndIncompleteFrames : Prop :=
  ∀ bits : List Bit,
    (decodeItem bits = .error .endOfBits ↔ bits = []) ∧
    (decodeItem bits = .error .incompleteFrame ↔ bits.head? = some false ∧ bits.length < 7) ∧
    ((∃ i, decodeItem bits = .ok i) ↔ bits.head? = some true ∨ 7 ≤ bits.length)

/-- Words written out from the spec's encodings decode to their instructions. R59 to R62 on a few words. -/
def Obligations.DecodedWordsOfTheSpec : Prop :=
  decodeItem [true] = .ok .idle ∧
    decodeItem [false, true, false, true, true, false, false] = .ok (.falseStart (Code.of 1 0 1 1 0)) ∧
    decodeItem [false, true, true, false, false, false, true, true] = .ok (.frame11000 2) ∧
    decodeItem [false, true, true, false, true, true, true] = .ok (.frame11011 1) ∧
    decodeItem [false, false, false, false, false, true, true, false] = .ok (.frame00001 1) ∧
    decodeItem [false, true, true, false, false, false] = .error .incompleteFrame

/-- SPB is the rounded quotient SAMPLE_RATE / BAUD, a tie to the even number, and BOUND and TRIM_LEN follow from it. R9, R20, R21, R22 (ties to even is D1, the floor of TRIM_LEN D6, the spec's own decisions). -/
def Obligations.DerivedValuesFollowTheirFormulas : Prop :=
  (∀ c : Configuration,
      let p := c.params
      let x := p.sampleRate.value * p.bitDuration
      p.bitDuration * p.baud.value = 1 ∧ 0 < p.spb ∧ |x - p.spb| ≤ 1 / 2 ∧ (|x - p.spb| = 1 / 2 → Even p.spb) ∧
      p.bound = p.boundFactor * p.spb ∧ p.spb ≤ p.bound ∧
      (p.trim = true → 5 * p.trimLen ≤ p.spb ∧ p.spb < 5 * (p.trimLen + 1)) ∧ (p.trim = false → p.trimLen = 0)) ∧
    Params.default.spb = 970 ∧ Params.default.bound = 9700 ∧ Params.default.trimLen = 194

/-- Rounding gives the one nearest integer, and midway between two the even one. R9, the function `round` (ties to even is D1, the spec's own decision). -/
def Obligations.RoundingTakesTheNearestIntegerTiesToEven : Prop :=
  ∀ (x : ℝ) (n : Int), roundHalfEven x = n ↔ |x - n| < 1 / 2 ∨ (|x - n| = 1 / 2 ∧ Even n)

/-- The bit of a window does not depend on CODEBOOK, PLACEHOLDER, FMT, BOUND_FACTOR or BAUD. R79, the list of what Disc reads; R24 and R25, "Read only by EXEC". -/
def Obligations.DiscReadsOnlyItsOwnParameters : Prop :=
  ∀ (p q : Params) (seg : List ℝ), p.markFreq = q.markFreq → p.spaceFreq = q.spaceFreq → p.halfWidth = q.halfWidth →
    p.order = q.order → p.sampleRate = q.sampleRate → p.trimLen = q.trimLen → p.numerics = q.numerics → p.edge = q.edge →
    windowBit p seg = windowBit q seg

/-- In a block of exact arithmetic a silent PUSH appends a 0 for each window and raises nothing. R96, on the machine; the spec marks it as derived. The reference arithmetic is the spec's own definition, notes/assumptions/15.md. -/
def Obligations.SilentPushGivesZerosInExactArithmetic : Prop :=
  ∀ (s : State) (n : Nat), s.run = .running → s.cfg.params.numerics = .exact → s.cfg.params.edge = .zeroState →
    (∀ x ∈ s.sb, x = 0) →
    let total := s.sb.length + n
    exec (.push (List.replicate n 0)) s = .next
      { s with
        sb := List.replicate (total % s.cfg.params.spb) 0
        bb := s.bb ++ List.replicate (total / s.cfg.params.spb) false }

/-- In exact arithmetic the Preprocessor's division by the maximum magnitude changes no bit of a signal. R93, its second consequence; the spec marks it as derived. The reference arithmetic is the spec's own definition, notes/assumptions/15.md. -/
def Obligations.NormalisingChangesNoBitInExactArithmetic : Prop :=
  ∀ (p : Params) (raw : Signal) (x : List ℝ), p.numerics = .exact → p.edge = .zeroState → preprocess raw = .ok x →
    demodAll p x = demodAll p (raw.map fun f => f.first.value)
end

