-- ==== Sys2Proof/Laws/State.lean ====
section
/-! SUPPORT. Sys2Proof/Laws/State.lean: what each field is after each write of Machine/Ops.lean, so that no proof unfolds
a record update. -/

namespace Sys2Proof.Machine

@[simp] theorem State.withMode_cfg (m : Mode) (s : State) : (s.withMode m).cfg = s.cfg := rfl
@[simp] theorem State.withMode_mode (m : Mode) (s : State) : (s.withMode m).mode = m := rfl
@[simp] theorem State.withMode_run (m : Mode) (s : State) : (s.withMode m).run = s.run := rfl
@[simp] theorem State.withMode_sb (m : Mode) (s : State) : (s.withMode m).sb = s.sb := rfl
@[simp] theorem State.withMode_bb (m : Mode) (s : State) : (s.withMode m).bb = s.bb := rfl
@[simp] theorem State.withMode_sync (m : Mode) (s : State) : (s.withMode m).sync = s.sync := rfl
@[simp] theorem State.withMode_evaluating (m : Mode) (s : State) : (s.withMode m).evaluating = s.evaluating := rfl
@[simp] theorem State.withMode_pending (m : Mode) (s : State) : (s.withMode m).pending = s.pending := rfl
@[simp] theorem State.withMode_returned (m : Mode) (s : State) : (s.withMode m).returned = s.returned := rfl

@[simp] theorem State.withRun_cfg (r : RunState) (s : State) : (s.withRun r).cfg = s.cfg := rfl
@[simp] theorem State.withRun_mode (r : RunState) (s : State) : (s.withRun r).mode = s.mode := rfl
@[simp] theorem State.withRun_run (r : RunState) (s : State) : (s.withRun r).run = r := rfl
@[simp] theorem State.withRun_sb (r : RunState) (s : State) : (s.withRun r).sb = s.sb := rfl
@[simp] theorem State.withRun_bb (r : RunState) (s : State) : (s.withRun r).bb = s.bb := rfl
@[simp] theorem State.withRun_sync (r : RunState) (s : State) : (s.withRun r).sync = s.sync := rfl
@[simp] theorem State.withRun_evaluating (r : RunState) (s : State) : (s.withRun r).evaluating = s.evaluating := rfl
@[simp] theorem State.withRun_pending (r : RunState) (s : State) : (s.withRun r).pending = s.pending := rfl
@[simp] theorem State.withRun_returned (r : RunState) (s : State) : (s.withRun r).returned = s.returned := rfl

@[simp] theorem State.withSb_cfg (x : List Sample) (s : State) : (s.withSb x).cfg = s.cfg := rfl
@[simp] theorem State.withSb_mode (x : List Sample) (s : State) : (s.withSb x).mode = s.mode := rfl
@[simp] theorem State.withSb_run (x : List Sample) (s : State) : (s.withSb x).run = s.run := rfl
@[simp] theorem State.withSb_sb (x : List Sample) (s : State) : (s.withSb x).sb = x := rfl
@[simp] theorem State.withSb_bb (x : List Sample) (s : State) : (s.withSb x).bb = s.bb := rfl
@[simp] theorem State.withSb_sync (x : List Sample) (s : State) : (s.withSb x).sync = s.sync := rfl
@[simp] theorem State.withSb_evaluating (x : List Sample) (s : State) : (s.withSb x).evaluating = s.evaluating := rfl
@[simp] theorem State.withSb_pending (x : List Sample) (s : State) : (s.withSb x).pending = s.pending := rfl
@[simp] theorem State.withSb_returned (x : List Sample) (s : State) : (s.withSb x).returned = s.returned := rfl

@[simp] theorem State.withBb_cfg (b : List Bit) (s : State) : (s.withBb b).cfg = s.cfg := rfl
@[simp] theorem State.withBb_mode (b : List Bit) (s : State) : (s.withBb b).mode = s.mode := rfl
@[simp] theorem State.withBb_run (b : List Bit) (s : State) : (s.withBb b).run = s.run := rfl
@[simp] theorem State.withBb_sb (b : List Bit) (s : State) : (s.withBb b).sb = s.sb := rfl
@[simp] theorem State.withBb_bb (b : List Bit) (s : State) : (s.withBb b).bb = b := rfl
@[simp] theorem State.withBb_sync (b : List Bit) (s : State) : (s.withBb b).sync = s.sync := rfl
@[simp] theorem State.withBb_evaluating (b : List Bit) (s : State) : (s.withBb b).evaluating = s.evaluating := rfl
@[simp] theorem State.withBb_pending (b : List Bit) (s : State) : (s.withBb b).pending = s.pending := rfl
@[simp] theorem State.withBb_returned (b : List Bit) (s : State) : (s.withBb b).returned = s.returned := rfl

@[simp] theorem State.withSync_cfg (r : SyncRegs) (s : State) : (s.withSync r).cfg = s.cfg := rfl
@[simp] theorem State.withSync_mode (r : SyncRegs) (s : State) : (s.withSync r).mode = s.mode := rfl
@[simp] theorem State.withSync_run (r : SyncRegs) (s : State) : (s.withSync r).run = s.run := rfl
@[simp] theorem State.withSync_sb (r : SyncRegs) (s : State) : (s.withSync r).sb = s.sb := rfl
@[simp] theorem State.withSync_bb (r : SyncRegs) (s : State) : (s.withSync r).bb = s.bb := rfl
@[simp] theorem State.withSync_sync (r : SyncRegs) (s : State) : (s.withSync r).sync = r := rfl
@[simp] theorem State.withSync_evaluating (r : SyncRegs) (s : State) : (s.withSync r).evaluating = s.evaluating := rfl
@[simp] theorem State.withSync_pending (r : SyncRegs) (s : State) : (s.withSync r).pending = s.pending := rfl
@[simp] theorem State.withSync_returned (r : SyncRegs) (s : State) : (s.withSync r).returned = s.returned := rfl

@[simp] theorem State.withEvaluating_cfg (e : Bool) (s : State) : (s.withEvaluating e).cfg = s.cfg := rfl
@[simp] theorem State.withEvaluating_mode (e : Bool) (s : State) : (s.withEvaluating e).mode = s.mode := rfl
@[simp] theorem State.withEvaluating_run (e : Bool) (s : State) : (s.withEvaluating e).run = s.run := rfl
@[simp] theorem State.withEvaluating_sb (e : Bool) (s : State) : (s.withEvaluating e).sb = s.sb := rfl
@[simp] theorem State.withEvaluating_bb (e : Bool) (s : State) : (s.withEvaluating e).bb = s.bb := rfl
@[simp] theorem State.withEvaluating_sync (e : Bool) (s : State) : (s.withEvaluating e).sync = s.sync := rfl
@[simp] theorem State.withEvaluating_evaluating (e : Bool) (s : State) : (s.withEvaluating e).evaluating = e := rfl
@[simp] theorem State.withEvaluating_pending (e : Bool) (s : State) : (s.withEvaluating e).pending = s.pending := rfl
@[simp] theorem State.withEvaluating_returned (e : Bool) (s : State) : (s.withEvaluating e).returned = s.returned := rfl

@[simp] theorem State.withPending_cfg (q : List Request) (s : State) : (s.withPending q).cfg = s.cfg := rfl
@[simp] theorem State.withPending_mode (q : List Request) (s : State) : (s.withPending q).mode = s.mode := rfl
@[simp] theorem State.withPending_run (q : List Request) (s : State) : (s.withPending q).run = s.run := rfl
@[simp] theorem State.withPending_sb (q : List Request) (s : State) : (s.withPending q).sb = s.sb := rfl
@[simp] theorem State.withPending_bb (q : List Request) (s : State) : (s.withPending q).bb = s.bb := rfl
@[simp] theorem State.withPending_sync (q : List Request) (s : State) : (s.withPending q).sync = s.sync := rfl
@[simp] theorem State.withPending_evaluating (q : List Request) (s : State) : (s.withPending q).evaluating = s.evaluating := rfl
@[simp] theorem State.withPending_pending (q : List Request) (s : State) : (s.withPending q).pending = q := rfl
@[simp] theorem State.withPending_returned (q : List Request) (s : State) : (s.withPending q).returned = s.returned := rfl

@[simp] theorem State.respond_cfg (x : Response) (s : State) : (s.respond x).cfg = s.cfg := rfl
@[simp] theorem State.respond_mode (x : Response) (s : State) : (s.respond x).mode = s.mode := rfl
@[simp] theorem State.respond_run (x : Response) (s : State) : (s.respond x).run = s.run := rfl
@[simp] theorem State.respond_sb (x : Response) (s : State) : (s.respond x).sb = s.sb := rfl
@[simp] theorem State.respond_bb (x : Response) (s : State) : (s.respond x).bb = s.bb := rfl
@[simp] theorem State.respond_sync (x : Response) (s : State) : (s.respond x).sync = s.sync := rfl
@[simp] theorem State.respond_evaluating (x : Response) (s : State) : (s.respond x).evaluating = s.evaluating := rfl
@[simp] theorem State.respond_pending (x : Response) (s : State) : (s.respond x).pending = s.pending := rfl
@[simp] theorem State.respond_returned (x : Response) (s : State) : (s.respond x).returned = s.returned ++ [x] := rfl

/-- Raising an error kind is handing it back (R190). -/
@[simp] theorem State.raise_eq (k : ErrorKind) (s : State) : s.raise k = s.respond (.error k) := rfl

/-- Two states are equal when their fields are. -/
theorem State.ext_fields (s t : State) (h1 : s.cfg = t.cfg) (h2 : s.mode = t.mode) (h3 : s.run = t.run) (h4 : s.sb = t.sb)
    (h5 : s.bb = t.bb) (h6 : s.sync = t.sync) (h7 : s.evaluating = t.evaluating) (h8 : s.pending = t.pending)
    (h9 : s.returned = t.returned) : s = t := by
  cases s; cases t; simp_all

end Sys2Proof.Machine
end

