-- ==== Sys2Proof/Laws/Ops.lean ====
section
/-! SUPPORT. Sys2Proof/Laws/Ops.lean: for each shared operation, what it can do, said once. -/

namespace Sys2Proof.Machine

/-! ### Acceptance -/

theorem whenRunning_of_running {s : State} (f : State → State) (h : s.run = .running) : whenRunning s f = f s := by
  simp [whenRunning, h]

theorem whenRunning_of_stopped {s : State} (f : State → State) (h : s.run = .stopped) : whenRunning s f = s := by
  simp [whenRunning, h]

/-- An accepted operation has its effect; a refused one has none. -/
theorem whenRunning_cases (s : State) (f : State → State) :
    (s.run = .running ∧ whenRunning s f = f s) ∨ (s.run = .stopped ∧ whenRunning s f = s) := by
  cases h : s.run <;> simp [whenRunning, h]

/-! ### The Configuration -/

theorem Configuration.spb_pos (c : Configuration) : 0 < c.params.spb := c.legal.spb_pos

theorem Configuration.spb_le_bound (c : Configuration) : c.params.spb ≤ c.params.bound :=
  Nat.le_mul_of_pos_left _ c.legal.boundFactor_pos

/-! ### DEMOD and the drain loop -/

theorem demodStep_of_window {s : State} (h : s.cfg.params.spb ≤ s.sb.length) :
    demodStep s = (s.withSb (s.sb.drop s.cfg.params.spb)).withBb
      (s.bb ++ [windowBit s.cfg.params ((s.sb.take s.cfg.params.spb).map sampleValue)]) := by
  simp [demodStep, h]

theorem demodStep_of_waiting {s : State} (h : s.sb.length < s.cfg.params.spb) : demodStep s = s := by
  simp [demodStep, Nat.not_le.mpr h]

/-- DEMOD leaves all but SB and BB as they are. -/
theorem demodStep_frame (s : State) : demodStep s = (s.withSb (demodStep s).sb).withBb (demodStep s).bb := by
  by_cases h : s.cfg.params.spb ≤ s.sb.length
  · rw [demodStep_of_window h]; rfl
  · rw [demodStep_of_waiting (Nat.lt_of_not_le h)]; rfl

@[simp] theorem demodStep_cfg (s : State) : (demodStep s).cfg = s.cfg := by rw [demodStep_frame]; rfl

theorem drainRounds_of_waiting {s : State} (n : Nat) (h : s.sb.length < s.cfg.params.spb) : drainRounds n s = s := by
  cases n with
  | zero => rfl
  | succ n => simp [drainRounds, Nat.not_le.mpr h]

theorem drainRounds_of_window {s : State} (n : Nat) (h : s.cfg.params.spb ≤ s.sb.length) :
    drainRounds (n + 1) s = drainRounds n (demodStep s) := by
  simp [drainRounds, h]

/-- The drain loop leaves all but SB and BB as they are. -/
theorem drainRounds_frame (n : Nat) (s : State) :
    drainRounds n s = (s.withSb (drainRounds n s).sb).withBb (drainRounds n s).bb := by
  induction n generalizing s with
  | zero => rfl
  | succ n ih =>
    by_cases h : s.cfg.params.spb ≤ s.sb.length
    · rw [drainRounds_of_window n h, ih, demodStep_frame]; rfl
    · rw [drainRounds_of_waiting _ (Nat.lt_of_not_le h)]; rfl

theorem drain_frame (s : State) : drain s = (s.withSb (drain s).sb).withBb (drain s).bb :=
  drainRounds_frame _ _

/-- Enough rounds leave fewer samples than a window. -/
theorem drainRounds_sb_lt (n : Nat) (s : State) (h : s.sb.length ≤ n) :
    (drainRounds n s).sb.length < s.cfg.params.spb := by
  induction n generalizing s with
  | zero =>
    have := s.cfg.spb_pos
    simp only [drainRounds]
    omega
  | succ n ih =>
    by_cases hw : s.cfg.params.spb ≤ s.sb.length
    · have hp := s.cfg.spb_pos
      have := ih (demodStep s) (by rw [demodStep_of_window hw]; simp; omega)
      rw [drainRounds_of_window n hw]
      simpa using this
    · rw [drainRounds_of_waiting _ (Nat.lt_of_not_le hw)]
      omega

theorem drain_sb_lt (s : State) : (drain s).sb.length < s.cfg.params.spb := drainRounds_sb_lt _ _ le_rfl

/-- The truncation leaves a state with less than a window waiting as it is. -/
theorem truncateSb_of_waiting {s : State} (h : s.sb.length < s.cfg.params.spb) : truncateSb s = s := by
  have := s.cfg.spb_le_bound
  simp only [truncateSb]
  rw [if_neg (by omega)]

theorem truncateSb_drain (s : State) : truncateSb (drain s) = drain s := by
  refine truncateSb_of_waiting ?_
  have h := drain_sb_lt s
  have hc : (drain s).cfg = s.cfg := by rw [drain_frame]; rfl
  rw [hc]
  exact h

/-! ### The synchroniser -/

/-- The three ways of `Exec` (R119). -/
theorem execCode_cases (cb : Codebook) (ph : Char) (code : Code) (m : Mode) :
    (∃ target, cb.switch.lookup code = some target ∧ execCode cb ph code m = (none, target)) ∨
    (∃ c, cb.switch.lookup code = none ∧ (cb.table m).lookup code = some c ∧ execCode cb ph code m = (some c, m)) ∨
    (cb.switch.lookup code = none ∧ (cb.table m).lookup code = none ∧ execCode cb ph code m = (some ph, m)) := by
  unfold execCode
  cases cb.switch.lookup code with
  | some target => exact .inl ⟨target, rfl, rfl⟩
  | none =>
    cases (cb.table m).lookup code with
    | some c => exact .inr (.inl ⟨c, rfl, rfl, rfl⟩)
    | none => exact .inr (.inr ⟨rfl, rfl, rfl⟩)

/-- An attempt with a stop bit is a frame (T2, T3, T4). -/
theorem SyncRegs.attempt_frame (cb : Codebook) (ph : Char) (data : Code) {n : Nat} (r : SyncRegs) (h : 1 ≤ n) :
    r.attempt cb ph data n =
      { control := .seekStart, i := r.i + 6 + n, data := data, j := r.i + 6 + n, stop := n,
        out := r.out ++ (execCode cb ph data r.m).1.toList, m := (execCode cb ph data r.m).2 } := by
  simp [SyncRegs.attempt, SyncRegs.t2, SyncRegs.t3, SyncRegs.t4, h]

/-- An attempt without one is a false start (T2, T3, T5). -/
theorem SyncRegs.attempt_falseStart (cb : Codebook) (ph : Char) (data : Code) (r : SyncRegs) :
    r.attempt cb ph data 0 =
      { control := .seekStart, i := r.i + 1, data := data, j := r.i + 6, stop := 0, out := r.out, m := r.m } := by
  simp [SyncRegs.attempt, SyncRegs.t2, SyncRegs.t3, SyncRegs.t5]

/-- A round that goes on is T1 at a 1, or an attempt at a 0 with at least 7 bits from it (R103, R108). -/
theorem syncRound_cases {cb : Codebook} {ph : Char} {bits : List Bit} {r r' : SyncRegs}
    (h : syncRound cb ph bits r = some r') :
    (r.i < bits.length ∧ bitAt bits r.i = true ∧ r' = r.t1) ∨
    (r.i + 7 ≤ bits.length ∧ bitAt bits r.i = false ∧
      r' = r.attempt cb ph (codeAt bits (r.i + 1)) (onesRun (bits.drop (r.i + 6)))) := by
  simp only [syncRound] at h
  split at h
  · cases h
  · split at h
    · cases h
      exact .inl ⟨by omega, by assumption, rfl⟩
    · split at h
      · cases h
      · cases h
        exact .inr ⟨by omega, by simpa using ‹¬bitAt bits r.i = true›, rfl⟩

/-- A round that ends the loop: no bit left, or a 0 with fewer than 7 bits from it (R108, R110). -/
theorem syncRound_none {cb : Codebook} {ph : Char} {bits : List Bit} {r : SyncRegs} (h : syncRound cb ph bits r = none) :
    bits.length ≤ r.i ∨ (r.i < bits.length ∧ bitAt bits r.i = false ∧ bits.length < r.i + 7) := by
  simp only [syncRound] at h
  split at h
  · exact .inl ‹_›
  · split at h
    · cases h
    · split at h
      · exact .inr ⟨by omega, by simpa using ‹¬bitAt bits r.i = true›, by omega⟩
      · cases h

/-- The stop run is within the bits. -/
theorem onesRun_le_length (bits : List Bit) : onesRun bits ≤ bits.length := by
  induction bits with
  | nil => exact le_rfl
  | cons b bits ih => cases b <;> simp [onesRun, ih]

/-! ### POLL -/

/-- POLL of a running session: the gate, or the end of an evaluation over all of BB (R166). -/
theorem pollEffect_cases (s : State) :
    (s.bb.length < 7 ∧ pollEffect s = s.respond (.fragment [])) ∨
    (7 ≤ s.bb.length ∧ pollEffect s = s.deliver (s.syncWith s.bb s.mode)) := by
  by_cases h : s.bb.length < 7
  · exact .inl ⟨h, by simp [pollEffect, h]⟩
  · exact .inr ⟨by omega, by simp [pollEffect, h]⟩

@[simp] theorem State.deliver_cfg (r : SyncResult) (s : State) : (s.deliver r).cfg = s.cfg := rfl
@[simp] theorem State.deliver_mode (r : SyncResult) (s : State) : (s.deliver r).mode = r.mode := rfl
@[simp] theorem State.deliver_run (r : SyncResult) (s : State) : (s.deliver r).run = s.run := rfl
@[simp] theorem State.deliver_sb (r : SyncResult) (s : State) : (s.deliver r).sb = s.sb := rfl
@[simp] theorem State.deliver_bb (r : SyncResult) (s : State) : (s.deliver r).bb = s.bb.drop r.consumed := rfl
@[simp] theorem State.deliver_sync (r : SyncResult) (s : State) : (s.deliver r).sync = s.sync := rfl
@[simp] theorem State.deliver_evaluating (r : SyncResult) (s : State) : (s.deliver r).evaluating = s.evaluating := rfl
@[simp] theorem State.deliver_pending (r : SyncResult) (s : State) : (s.deliver r).pending = s.pending := rfl
@[simp] theorem State.deliver_returned (r : SyncResult) (s : State) : (s.deliver r).returned =
    s.returned ++ [.fragment (if s.cfg.params.fmt then formatText r.text else r.text)] := rfl

/-- What `Preprocess` can answer (R171). -/
theorem preprocess_cases (raw : Signal) :
    (raw = [] ∧ preprocess raw = .error .emptySignal) ∨
    (raw ≠ [] ∧ maxMagnitude (firstChannel raw) = 0 ∧ preprocess raw = .error .silentSignal) ∨
    (raw ≠ [] ∧ maxMagnitude (firstChannel raw) ≠ 0 ∧
      preprocess raw = .ok ((firstChannel raw).map fun v => v.value / maxMagnitude (firstChannel raw))) := by
  by_cases h : raw = []
  · subst h
    exact .inl ⟨rfl, rfl⟩
  · have hs := silent_iff_maxMagnitude (firstChannel raw)
    by_cases hm : maxMagnitude (firstChannel raw) = 0
    · simp [preprocess, h, hs.mpr hm, hm]
    · simp [preprocess, h, mt hs.mp hm, hm, normalise]

/-! ### The discriminator -/

@[simp] theorem RealNumber.value_rational (q : Rat) : (RealNumber.rational q).value = (q : ℝ) := rfl
@[simp] theorem RealNumber.value_named (n : Nat) : (RealNumber.named n).value = (Config.real n : ℝ) := rfl

@[simp] theorem untrimmed_spb (p : Params) : p.untrimmed.spb = p.spb := rfl
@[simp] theorem untrimmed_filter (p : Params) : p.untrimmed.filter = p.filter := rfl
@[simp] theorem untrimmed_trimLen (p : Params) : p.untrimmed.trimLen = 0 := rfl
@[simp] theorem untrimmed_numerics (p : Params) : p.untrimmed.numerics = p.numerics := rfl
@[simp] theorem untrimmed_edge (p : Params) : p.untrimmed.edge = p.edge := rfl

@[simp] theorem demodAll_length (p : Params) (x : List ℝ) : (demodAll p x).length = x.length / p.spb := by
  simp [demodAll]

@[simp] theorem normalise_length (y : List RealNumber) : (normalise y).length = y.length := by
  simp [normalise]

/-- Which energies the bit of a window compares (R8, R79, R90, R94). -/
theorem windowBit_cases (p : Params) (seg : List ℝ) :
    (p.numerics = .exact ∧ p.edge = .zeroState ∧ windowBit p seg = disc refNumerics p.filter p.trimLen seg) ∨
    ∃ n, windowBit p seg = disc (freeNumerics n) p.filter p.trimLen seg := by
  unfold windowBit arithmeticOf
  cases hn : p.numerics with
  | exact =>
    cases he : p.edge with
    | zeroState => exact .inl ⟨rfl, rfl, rfl⟩
    | other => exact .inr ⟨0, rfl⟩
  | other n => exact .inr ⟨n + 1, rfl⟩

/-- The bit of the reference arithmetic (R90). -/
theorem disc_refNumerics (f : FilterConfig) (trimLen : Nat) (seg : List ℝ) :
    disc refNumerics f trimLen seg = true ↔
      refEnergy f .space (seg.drop trimLen) < refEnergy f .mark (seg.drop trimLen) := by
  simp [disc, refNumerics]

/-- `Format` of no text is no text (R167). -/
@[simp] theorem formatText_nil : formatText [] = [] := rfl

end Sys2Proof.Machine
end

