-- ==== Sys2Proof/Laws/PerInstr.lean ====
section
/-! SUPPORT. Sys2Proof/Laws/PerInstr.lean: for every instruction, the decoder reads the instruction back from its own
encoding alone (R60, R61); the operations have no encoding (R77). -/

namespace Sys2Proof.Laws

/-- The stop run of `n` 1-bits alone has length `n`. -/
theorem onesRun_replicate (n : Nat) : onesRun (List.replicate n true) = n := by
  induction n with
  | zero => rfl
  | succ n ih => simp [List.replicate_succ, onesRun, ih]

/-- The bits of a frame with at least one stop bit decode to the frame of its code (R59, R60). -/
theorem decodeItem_encS (c : Code) (n : Nat) (h : 1 ≤ n) : decodeItem (encS c n) = .ok (Instr.frameOf c n) := by
  obtain ⟨k, rfl⟩ := Nat.exists_eq_add_of_le' h
  simp [encS, Code.toList, List.replicate_succ, decodeItem, onesRun_replicate]

/-- The statement of the family. -/
def EncodingRoundTrip.Statement (i : Instr) : Prop :=
  i.wellFormed = true → ∀ bits, encode i = some bits → decodeItem bits = .ok i

namespace EncodingRoundTrip

theorem idle : Statement .idle := by
  intro _ bits h
  cases h
  rfl

theorem falseStart (data : Code) : Statement (.falseStart data) := by
  intro _ bits h
  cases h
  rfl

theorem frame00000 (n : Nat) : Statement (.frame00000 n) := by
  intro w bits h
  cases h
  exact decodeItem_encS _ n (of_decide_eq_true w)

theorem frame00001 (n : Nat) : Statement (.frame00001 n) := by
  intro w bits h
  cases h
  exact decodeItem_encS _ n (of_decide_eq_true w)

theorem frame00010 (n : Nat) : Statement (.frame00010 n) := by
  intro w bits h
  cases h
  exact decodeItem_encS _ n (of_decide_eq_true w)

theorem frame00011 (n : Nat) : Statement (.frame00011 n) := by
  intro w bits h
  cases h
  exact decodeItem_encS _ n (of_decide_eq_true w)

theorem frame00100 (n : Nat) : Statement (.frame00100 n) := by
  intro w bits h
  cases h
  exact decodeItem_encS _ n (of_decide_eq_true w)

theorem frame00101 (n : Nat) : Statement (.frame00101 n) := by
  intro w bits h
  cases h
  exact decodeItem_encS _ n (of_decide_eq_true w)

theorem frame00110 (n : Nat) : Statement (.frame00110 n) := by
  intro w bits h
  cases h
  exact decodeItem_encS _ n (of_decide_eq_true w)

theorem frame00111 (n : Nat) : Statement (.frame00111 n) := by
  intro w bits h
  cases h
  exact decodeItem_encS _ n (of_decide_eq_true w)

theorem frame01000 (n : Nat) : Statement (.frame01000 n) := by
  intro w bits h
  cases h
  exact decodeItem_encS _ n (of_decide_eq_true w)

theorem frame01001 (n : Nat) : Statement (.frame01001 n) := by
  intro w bits h
  cases h
  exact decodeItem_encS _ n (of_decide_eq_true w)

theorem frame01010 (n : Nat) : Statement (.frame01010 n) := by
  intro w bits h
  cases h
  exact decodeItem_encS _ n (of_decide_eq_true w)

theorem frame01011 (n : Nat) : Statement (.frame01011 n) := by
  intro w bits h
  cases h
  exact decodeItem_encS _ n (of_decide_eq_true w)

theorem frame01100 (n : Nat) : Statement (.frame01100 n) := by
  intro w bits h
  cases h
  exact decodeItem_encS _ n (of_decide_eq_true w)

theorem frame01101 (n : Nat) : Statement (.frame01101 n) := by
  intro w bits h
  cases h
  exact decodeItem_encS _ n (of_decide_eq_true w)

theorem frame01110 (n : Nat) : Statement (.frame01110 n) := by
  intro w bits h
  cases h
  exact decodeItem_encS _ n (of_decide_eq_true w)

theorem frame01111 (n : Nat) : Statement (.frame01111 n) := by
  intro w bits h
  cases h
  exact decodeItem_encS _ n (of_decide_eq_true w)

theorem frame10000 (n : Nat) : Statement (.frame10000 n) := by
  intro w bits h
  cases h
  exact decodeItem_encS _ n (of_decide_eq_true w)

theorem frame10001 (n : Nat) : Statement (.frame10001 n) := by
  intro w bits h
  cases h
  exact decodeItem_encS _ n (of_decide_eq_true w)

theorem frame10010 (n : Nat) : Statement (.frame10010 n) := by
  intro w bits h
  cases h
  exact decodeItem_encS _ n (of_decide_eq_true w)

theorem frame10011 (n : Nat) : Statement (.frame10011 n) := by
  intro w bits h
  cases h
  exact decodeItem_encS _ n (of_decide_eq_true w)

theorem frame10100 (n : Nat) : Statement (.frame10100 n) := by
  intro w bits h
  cases h
  exact decodeItem_encS _ n (of_decide_eq_true w)

theorem frame10101 (n : Nat) : Statement (.frame10101 n) := by
  intro w bits h
  cases h
  exact decodeItem_encS _ n (of_decide_eq_true w)

theorem frame10110 (n : Nat) : Statement (.frame10110 n) := by
  intro w bits h
  cases h
  exact decodeItem_encS _ n (of_decide_eq_true w)

theorem frame10111 (n : Nat) : Statement (.frame10111 n) := by
  intro w bits h
  cases h
  exact decodeItem_encS _ n (of_decide_eq_true w)

theorem frame11000 (n : Nat) : Statement (.frame11000 n) := by
  intro w bits h
  cases h
  exact decodeItem_encS _ n (of_decide_eq_true w)

theorem frame11001 (n : Nat) : Statement (.frame11001 n) := by
  intro w bits h
  cases h
  exact decodeItem_encS _ n (of_decide_eq_true w)

theorem frame11010 (n : Nat) : Statement (.frame11010 n) := by
  intro w bits h
  cases h
  exact decodeItem_encS _ n (of_decide_eq_true w)

theorem frame11011 (n : Nat) : Statement (.frame11011 n) := by
  intro w bits h
  cases h
  exact decodeItem_encS _ n (of_decide_eq_true w)

theorem frame11100 (n : Nat) : Statement (.frame11100 n) := by
  intro w bits h
  cases h
  exact decodeItem_encS _ n (of_decide_eq_true w)

theorem frame11101 (n : Nat) : Statement (.frame11101 n) := by
  intro w bits h
  cases h
  exact decodeItem_encS _ n (of_decide_eq_true w)

theorem frame11110 (n : Nat) : Statement (.frame11110 n) := by
  intro w bits h
  cases h
  exact decodeItem_encS _ n (of_decide_eq_true w)

theorem frame11111 (n : Nat) : Statement (.frame11111 n) := by
  intro w bits h
  cases h
  exact decodeItem_encS _ n (of_decide_eq_true w)

theorem reset : Statement .reset := by
  intro _ _ h
  cases h

theorem sample (x : Sample) : Statement (.sample x) := by
  intro _ _ h
  cases h

theorem push (chunk : List Sample) : Statement (.push chunk) := by
  intro _ _ h
  cases h

theorem poll : Statement .poll := by
  intro _ _ h
  cases h

theorem batch (raw : Signal) : Statement (.batch raw) := by
  intro _ _ h
  cases h

theorem stop : Statement .stop := by
  intro _ _ h
  cases h

theorem abort : Statement .abort := by
  intro _ _ h
  cases h

theorem demod : Statement .demod := by
  intro _ _ h
  cases h

theorem sync (bits : List Bit) (m0 : Mode) : Statement (.sync bits m0) := by
  intro _ _ h
  cases h

theorem exec (code : Code) (m : Mode) : Statement (.exec code m) := by
  intro _ _ h
  cases h

theorem format (t : Text) : Statement (.format t) := by
  intro _ _ h
  cases h

end EncodingRoundTrip

end Sys2Proof.Laws
end

