-- ==== Sys2Proof/Tests/Slice0.lean ====
section
/-! SUPPORT. Sys2Proof/Tests/Slice0.lean: small tests. Expected values come from spec/: the encodings of 30_encoding.md,
the vectors of 95_test_vectors.md (named V-.. or P.. below), the examples inside the rules. After them, for every
statement with hypotheses, a state and operands that meet them. -/

namespace Sys2Proof.Machine.Tests

/-! ### The test block: two samples a bit, HALF_WIDTH 50, PLACEHOLDER '_' -/

def testParams (cb : Codebook) (fmt : Bool) : Params :=
  { Params.default with
    baud := .rational 22050, halfWidth := .rational 50, placeholder := '_', codebook := cb, fmt := fmt, spb := 2 }

/-- R9: 44100 / 22050 is 2. -/
theorem testParams_derivedSpb (cb : Codebook) (fmt : Bool) : (testParams cb fmt).derivedSpb = 2 :=
  roundHalfEven_of_lt (by norm_num [testParams, Params.default, Params.bitDuration, RealNumber.value])
    (by norm_num [testParams, Params.default, Params.bitDuration, RealNumber.value])

theorem testParams_legal (cb : Codebook) (fmt : Bool) (hk : cb.UniqueKeys) (hs : cb.SwitchSize) :
    (testParams cb fmt).Legal := by
  constructor
  case spb_derived => rw [testParams_derivedSpb]; rfl
  case uniqueKeys => exact hk
  case switchSize => exact hs
  all_goals
    simp only [testParams, Params.default, Params.filter, RealNumber.value, FilterConfig.BandOk, FilterConfig.lowEdge,
      FilterConfig.highEdge, FilterConfig.centre]
    norm_num

def testCfg : Configuration := ⟨testParams cbDefault true, testParams_legal _ _ (by decide +kernel) (.inl rfl)⟩

def testCfgSrc : Configuration := ⟨testParams cbSrc false, testParams_legal _ _ (by decide +kernel) (.inr rfl)⟩

/-- A written rational. -/
def r (q : Rat) : RealNumber := .rational q

/-- The state after reset, of the test block. -/
def demo : State := { State.reset with cfg := testCfg }

/-- The same with CB_SRC and FMT = 0. -/
def demoSrc : State := { State.reset with cfg := testCfgSrc }

/-- A bit sequence written with digits, earliest first (R77). -/
def bits (ds : List Nat) : List Bit := ds.map fun d => d == 1

/-- A watched POLL standing at the front of the given bits. -/
def atBits (ds : List Nat) (m : Mode) : State := { demo with mode := m, bb := bits ds }.openEvaluation

/-- Text, index and mode of the evaluation after an outcome. -/
def seen (o : Host.Outcome State Fault Refusal) : Text × Nat × Mode :=
  match o with
  | .next t => (t.sync.out, t.sync.i, t.sync.m)
  | .fault _ => ([], 0, .lat)
  | .refused _ => ([], 0, .lat)

/-- The state after an outcome. -/
def after (o : Host.Outcome State Fault Refusal) : State :=
  match o with
  | .next t => t
  | .fault _ => State.reset
  | .refused _ => State.reset

/-! ### WellFormed: an ill-formed term for each check -/

theorem test_wellFormed_refuses_frame_without_stop_bit :
    (Instr.frame11000 0).wellFormed = false ∧ (Instr.frame11000 1).wellFormed = true := by decide

theorem test_wellFormed_refuses_signal_with_uneven_channels :
    (Instr.batch [⟨r 1, []⟩, ⟨r 2, [r 3]⟩]).wellFormed = false ∧
    (Instr.batch [⟨r 1, [r 2]⟩, ⟨r 2, [r 3]⟩]).wellFormed = true := by
  decide

/-! ### Decoding, from the encodings of 30_encoding.md R59 to R61 and R71 -/

theorem test_decode_idle : decodeItem (bits [1]) = .ok .idle := rfl
theorem test_decode_falseStart : decodeItem (bits [0, 1, 0, 1, 1, 0, 0]) = .ok (.falseStart (Code.of 1 0 1 1 0)) := rfl
theorem test_decode_frame00000 : decodeItem (bits [0, 0, 0, 0, 0, 0, 1]) = .ok (.frame00000 1) := rfl
theorem test_decode_frame00001 : decodeItem (bits [0, 0, 0, 0, 0, 1, 1]) = .ok (.frame00001 1) := rfl
theorem test_decode_frame00010 : decodeItem (bits [0, 0, 0, 0, 1, 0, 1]) = .ok (.frame00010 1) := rfl
theorem test_decode_frame00011 : decodeItem (bits [0, 0, 0, 0, 1, 1, 1]) = .ok (.frame00011 1) := rfl
theorem test_decode_frame00100 : decodeItem (bits [0, 0, 0, 1, 0, 0, 1]) = .ok (.frame00100 1) := rfl
theorem test_decode_frame00101 : decodeItem (bits [0, 0, 0, 1, 0, 1, 1]) = .ok (.frame00101 1) := rfl
theorem test_decode_frame00110 : decodeItem (bits [0, 0, 0, 1, 1, 0, 1]) = .ok (.frame00110 1) := rfl
theorem test_decode_frame00111 : decodeItem (bits [0, 0, 0, 1, 1, 1, 1]) = .ok (.frame00111 1) := rfl
theorem test_decode_frame01000 : decodeItem (bits [0, 0, 1, 0, 0, 0, 1]) = .ok (.frame01000 1) := rfl
theorem test_decode_frame01001 : decodeItem (bits [0, 0, 1, 0, 0, 1, 1]) = .ok (.frame01001 1) := rfl
theorem test_decode_frame01010 : decodeItem (bits [0, 0, 1, 0, 1, 0, 1]) = .ok (.frame01010 1) := rfl
theorem test_decode_frame01011 : decodeItem (bits [0, 0, 1, 0, 1, 1, 1]) = .ok (.frame01011 1) := rfl
theorem test_decode_frame01100 : decodeItem (bits [0, 0, 1, 1, 0, 0, 1]) = .ok (.frame01100 1) := rfl
theorem test_decode_frame01101 : decodeItem (bits [0, 0, 1, 1, 0, 1, 1]) = .ok (.frame01101 1) := rfl
theorem test_decode_frame01110 : decodeItem (bits [0, 0, 1, 1, 1, 0, 1]) = .ok (.frame01110 1) := rfl
theorem test_decode_frame01111 : decodeItem (bits [0, 0, 1, 1, 1, 1, 1]) = .ok (.frame01111 1) := rfl
theorem test_decode_frame10000 : decodeItem (bits [0, 1, 0, 0, 0, 0, 1]) = .ok (.frame10000 1) := rfl
theorem test_decode_frame10001 : decodeItem (bits [0, 1, 0, 0, 0, 1, 1]) = .ok (.frame10001 1) := rfl
theorem test_decode_frame10010 : decodeItem (bits [0, 1, 0, 0, 1, 0, 1]) = .ok (.frame10010 1) := rfl
theorem test_decode_frame10011 : decodeItem (bits [0, 1, 0, 0, 1, 1, 1]) = .ok (.frame10011 1) := rfl
theorem test_decode_frame10100 : decodeItem (bits [0, 1, 0, 1, 0, 0, 1]) = .ok (.frame10100 1) := rfl
theorem test_decode_frame10101 : decodeItem (bits [0, 1, 0, 1, 0, 1, 1]) = .ok (.frame10101 1) := rfl
theorem test_decode_frame10110 : decodeItem (bits [0, 1, 0, 1, 1, 0, 1]) = .ok (.frame10110 1) := rfl
theorem test_decode_frame10111 : decodeItem (bits [0, 1, 0, 1, 1, 1, 1]) = .ok (.frame10111 1) := rfl
theorem test_decode_frame11000 : decodeItem (bits [0, 1, 1, 0, 0, 0, 1]) = .ok (.frame11000 1) := rfl
theorem test_decode_frame11001 : decodeItem (bits [0, 1, 1, 0, 0, 1, 1]) = .ok (.frame11001 1) := rfl
theorem test_decode_frame11010 : decodeItem (bits [0, 1, 1, 0, 1, 0, 1]) = .ok (.frame11010 1) := rfl
theorem test_decode_frame11011 : decodeItem (bits [0, 1, 1, 0, 1, 1, 1]) = .ok (.frame11011 1) := rfl
theorem test_decode_frame11100 : decodeItem (bits [0, 1, 1, 1, 0, 0, 1]) = .ok (.frame11100 1) := rfl
theorem test_decode_frame11101 : decodeItem (bits [0, 1, 1, 1, 0, 1, 1]) = .ok (.frame11101 1) := rfl
theorem test_decode_frame11110 : decodeItem (bits [0, 1, 1, 1, 1, 0, 1]) = .ok (.frame11110 1) := rfl
theorem test_decode_frame11111 : decodeItem (bits [0, 1, 1, 1, 1, 1, 1]) = .ok (.frame11111 1) := rfl
theorem test_decode_rejects_by_name :
    decodeItem [] = .error .endOfBits ∧ decodeItem (bits [0, 1, 1, 0, 0, 0]) = .error .incompleteFrame := ⟨rfl, rfl⟩
theorem test_decode_counts_stop_run : decodeItem (bits [0, 1, 1, 0, 0, 0, 1, 1, 1, 0]) = .ok (.frame11000 3) := rfl

/-- Words numbered as the table numbers them: FRAME_11000 is 49, FALSESTART 0, IDLE (one bit) 1. -/
theorem test_decodeTableWord :
    decodeTableWord 8 49 = some (.frame11000 1) ∧ decodeTableWord 32 49 = some (.frame11000 1) ∧
    decodeTableWord 8 0 = some (.falseStart (Code.of 0 0 0 0 0)) ∧ decodeTableWord 1 1 = some .idle := by decide

/-- The first step after reset runs the word placed by withFetchWord (X7: "A"). -/
theorem test_withFetchWord_runs_frame11000 : seen (step (State.reset.withFetchWord 8 49)) = (['A'], 7, .lat) := by decide

/-! ### The items, V-E0 of 95_test_vectors.md with two stop bits: text and mode from LAT, RUS and FIGS -/

/-- Text and mode after a frame from each mode, index 8 in every case. -/
def fromEachMode (i : Instr) : List (Text × Nat × Mode) :=
  [.lat, .rus, .figs].map fun m => seen (exec i (atBits [] m))

theorem test_exec_idle : seen (exec .idle (atBits [1] .rus)) = ([], 1, .rus) := by decide
theorem test_exec_falseStart : seen (exec (.falseStart (Code.of 1 1 0 0 0)) (atBits [] .figs)) = ([], 1, .figs) := by decide
theorem test_exec_frame00000 : fromEachMode (.frame00000 2) = [([], 8, .rus), ([], 8, .rus), ([], 8, .rus)] := by decide
theorem test_exec_frame00001 : fromEachMode (.frame00001 2) = [(['T'], 8, .lat), (['Т'], 8, .rus), (['5'], 8, .figs)] := by decide
theorem test_exec_frame00010 : fromEachMode (.frame00010 2) = [(['\r'], 8, .lat), (['\r'], 8, .rus), (['\r'], 8, .figs)] := by decide
theorem test_exec_frame00011 : fromEachMode (.frame00011 2) = [(['O'], 8, .lat), (['О'], 8, .rus), (['9'], 8, .figs)] := by decide
theorem test_exec_frame00100 : fromEachMode (.frame00100 2) = [([' '], 8, .lat), ([' '], 8, .rus), ([' '], 8, .figs)] := by decide
theorem test_exec_frame00101 : fromEachMode (.frame00101 2) = [(['H'], 8, .lat), (['Х'], 8, .rus), (['Щ'], 8, .figs)] := by decide
theorem test_exec_frame00110 : fromEachMode (.frame00110 2) = [(['N'], 8, .lat), (['Н'], 8, .rus), ([','], 8, .figs)] := by decide
theorem test_exec_frame00111 : fromEachMode (.frame00111 2) = [(['M'], 8, .lat), (['М'], 8, .rus), (['.'], 8, .figs)] := by decide
theorem test_exec_frame01000 : fromEachMode (.frame01000 2) = [(['\n'], 8, .lat), (['\n'], 8, .rus), (['\n'], 8, .figs)] := by decide
theorem test_exec_frame01001 : fromEachMode (.frame01001 2) = [(['L'], 8, .lat), (['Л'], 8, .rus), ([')'], 8, .figs)] := by decide
theorem test_exec_frame01010 : fromEachMode (.frame01010 2) = [(['R'], 8, .lat), (['Р'], 8, .rus), (['4'], 8, .figs)] := by decide
theorem test_exec_frame01011 : fromEachMode (.frame01011 2) = [(['G'], 8, .lat), (['Г'], 8, .rus), (['Ш'], 8, .figs)] := by decide
theorem test_exec_frame01100 : fromEachMode (.frame01100 2) = [(['I'], 8, .lat), (['И'], 8, .rus), (['8'], 8, .figs)] := by decide
theorem test_exec_frame01101 : fromEachMode (.frame01101 2) = [(['P'], 8, .lat), (['П'], 8, .rus), (['0'], 8, .figs)] := by decide
theorem test_exec_frame01110 : fromEachMode (.frame01110 2) = [(['C'], 8, .lat), (['Ц'], 8, .rus), ([':'], 8, .figs)] := by decide
theorem test_exec_frame01111 : fromEachMode (.frame01111 2) = [(['V'], 8, .lat), (['Ж'], 8, .rus), (['='], 8, .figs)] := by decide
theorem test_exec_frame10000 : fromEachMode (.frame10000 2) = [(['E'], 8, .lat), (['Е'], 8, .rus), (['3'], 8, .figs)] := by decide
theorem test_exec_frame10001 : fromEachMode (.frame10001 2) = [(['Z'], 8, .lat), (['З'], 8, .rus), (['+'], 8, .figs)] := by decide
theorem test_exec_frame10010 : fromEachMode (.frame10010 2) = [(['D'], 8, .lat), (['Д'], 8, .rus), (['_'], 8, .figs)] := by decide
theorem test_exec_frame10011 : fromEachMode (.frame10011 2) = [(['B'], 8, .lat), (['Б'], 8, .rus), (['?'], 8, .figs)] := by decide
theorem test_exec_frame10100 : fromEachMode (.frame10100 2) = [(['S'], 8, .lat), (['С'], 8, .rus), (['\''], 8, .figs)] := by decide
theorem test_exec_frame10101 : fromEachMode (.frame10101 2) = [(['Y'], 8, .lat), (['Ы'], 8, .rus), (['6'], 8, .figs)] := by decide
theorem test_exec_frame10110 : fromEachMode (.frame10110 2) = [(['F'], 8, .lat), (['Ф'], 8, .rus), (['Э'], 8, .figs)] := by decide
theorem test_exec_frame10111 : fromEachMode (.frame10111 2) = [(['X'], 8, .lat), (['Ь'], 8, .rus), (['/'], 8, .figs)] := by decide
theorem test_exec_frame11000 : fromEachMode (.frame11000 2) = [(['A'], 8, .lat), (['А'], 8, .rus), (['-'], 8, .figs)] := by decide
theorem test_exec_frame11001 : fromEachMode (.frame11001 2) = [(['W'], 8, .lat), (['В'], 8, .rus), (['2'], 8, .figs)] := by decide
theorem test_exec_frame11010 : fromEachMode (.frame11010 2) = [(['J'], 8, .lat), (['Й'], 8, .rus), (['Ю'], 8, .figs)] := by decide
theorem test_exec_frame11011 : fromEachMode (.frame11011 2) = [([], 8, .figs), ([], 8, .figs), ([], 8, .figs)] := by decide
theorem test_exec_frame11100 : fromEachMode (.frame11100 2) = [(['U'], 8, .lat), (['У'], 8, .rus), (['7'], 8, .figs)] := by decide
theorem test_exec_frame11101 : fromEachMode (.frame11101 2) = [(['Q'], 8, .lat), (['Я'], 8, .rus), (['1'], 8, .figs)] := by decide
theorem test_exec_frame11110 : fromEachMode (.frame11110 2) = [(['K'], 8, .lat), (['К'], 8, .rus), (['('], 8, .figs)] := by decide
theorem test_exec_frame11111 : fromEachMode (.frame11111 2) = [([], 8, .lat), ([], 8, .lat), ([], 8, .lat)] := by decide

/-- The code points of CB_DEFAULT in the order of R71, and R126 (a), (b), (d). -/
theorem test_cbDefault_code_points :
    cbDefault.lat.map (fun e => e.2.toNat) = [84, 13, 79, 32, 72, 78, 77, 10, 76, 82, 71, 73, 80, 67, 86, 69, 90, 68, 66, 83, 89, 70, 88, 65, 87, 74, 85, 81, 75] ∧
    cbDefault.rus.map (fun e => e.2.toNat) = [1058, 13, 1054, 32, 1061, 1053, 1052, 10, 1051, 1056, 1043, 1048, 1055, 1062, 1046, 1045, 1047, 1044, 1041, 1057, 1067, 1060, 1068, 1040, 1042, 1049, 1059, 1071, 1050] ∧
    cbDefault.figs.map (fun e => e.2.toNat) = [53, 13, 57, 32, 1065, 44, 46, 10, 41, 52, 1064, 56, 48, 58, 61, 51, 43, 63, 39, 54, 1069, 47, 45, 50, 1070, 55, 49, 40] := by decide

theorem test_cbDefault_properties :
    cbDefault.UniqueKeys ∧ (cbDefault.lat.map Prod.snd).Nodup ∧ (cbDefault.rus.map Prod.snd).Nodup ∧
    (cbDefault.figs.map Prod.snd).Nodup ∧ cbDefault.lat.length = 29 ∧ cbDefault.rus.length = 29 ∧
    cbDefault.figs.length = 28 ∧
    (∀ e ∈ cbDefault.switch, cbDefault.lat.lookup e.1 = none ∧ cbDefault.rus.lookup e.1 = none ∧
      cbDefault.figs.lookup e.1 = none) := by decide +kernel

/-! ### Sync and Exec: V-C, V-S and V-E vectors -/

def syncDefault (ds : List Nat) (m : Mode) : SyncResult := syncBits cbDefault '_' (bits ds) m
def syncSrc (ds : List Nat) : SyncResult := syncBits cbSrc '_' (bits ds) .lat

/-- V-C2, V-C3, V-C4, V-C8, V-C10, V-C11, V-C12. -/
theorem test_sync_source_vectors :
    syncSrc [0,1,1,0,1,1,1,1,0,0,0,0,0,1,1,1] = ⟨['5'], 16, .figs⟩ ∧
    syncSrc [0,1,1,0,1,1,1,1,0,1,1,0,0,0,1,1] = ⟨['_'], 16, .figs⟩ ∧
    syncSrc [0,0,0,0,0,1,1,1] = ⟨['_'], 8, .lat⟩ ∧
    syncSrc [0,1,1,0,1,1,1,1,0,1,1,1,1,1,1,1,0,1,1,0,0,0,1,1] = ⟨['_', '_'], 24, .figs⟩ ∧
    syncSrc [0,1,1,0,0,0,1] = ⟨['A'], 7, .lat⟩ ∧ syncSrc [0,1,1,0,0,0] = ⟨[], 0, .lat⟩ ∧
    syncSrc [0,1,1,0,0,0,0] = ⟨[], 3, .lat⟩ := by decide

/-- V-S1, V-S2, V-S3b, V-S5c, V-S6, V-S9a, V-S9b, V-S10b, V-S14. -/
theorem test_sync_default_vectors :
    syncDefault [] .lat = ⟨[], 0, .lat⟩ ∧ syncDefault [1,1,1,1,1,1,1,1,1] .rus = ⟨[], 9, .rus⟩ ∧
    syncDefault [1,1,0,1,1,0,0,0] .lat = ⟨[], 2, .lat⟩ ∧ syncDefault (List.replicate 14 0) .lat = ⟨[], 8, .lat⟩ ∧
    syncDefault [0,1,1,0,0,0,1,1,1,1,1,1,1,1,1,1] .lat = ⟨['A'], 16, .lat⟩ ∧
    syncDefault [0,0,0,0,0,0,1,1,1,1] .lat = ⟨[], 10, .rus⟩ ∧
    syncDefault [0,0,0,0,0,0,1,1,1,1,0,0,0,0,0,1,1,1] .lat = ⟨['Т'], 18, .rus⟩ ∧
    syncDefault [0,1,1,0,0,0,1,1,0,1,0,0,1,1] .lat = ⟨['A'], 8, .lat⟩ ∧
    syncDefault [1,1,0,1,1,1,1,1,1,1,0,1,1,0,0,0,1,1] .lat = ⟨['A'], 18, .lat⟩ := by decide

/-- R119, R122 in CB_SRC: 11111 is no switch code there (V-C8). -/
theorem test_exec_exec :
    (after (exec (.exec (Code.of 1 1 1 1 1) .figs) demoSrc)).returned = [.executed (some '_') .figs] ∧
    (after (exec (.exec (Code.of 1 1 1 1 1) .figs) demo)).returned = [.executed none .lat] := by decide

theorem test_exec_sync : (after (exec (.sync (bits [0,1,1,0,0,0,1,1]) .rus) demo)).returned = [.synced ['А'] 8 .rus] := by
  decide

/-- V-F1, V-F2, V-F3, V-F7. -/
theorem test_exec_format :
    formatText ['A', '\r', '\n', '\r', '\n', 'B', '\r'] = ['A', '\n', 'B', '\n'] ∧ formatText ['\r'] = ['\n'] ∧
    formatText ['\n', '\n', '\n'] = ['\n'] ∧
    formatText ['\r', '\r', 'A', '\n', '\r', 'B'] = ['\n', 'A', '\n', 'B'] ∧
    (after (exec (.format ['\r', '\r']) demo)).returned = [.formatted ['\n']] := by decide

/-! ### The port operations -/

theorem test_default_samples_per_bit :
    Params.default.spb = 970 ∧ Params.default.bound = 9700 ∧ Params.default.trimLen = 194 := by decide

/-- R9: a tie goes to the even number. -/
theorem test_roundHalfEven_ties : roundHalfEven (5 / 2) = 2 ∧ roundHalfEven (7 / 2) = 4 := by
  have h1 : ⌊(5 / 2 : ℝ)⌋ = 2 := Int.floor_eq_iff.mpr (by norm_num)
  have h2 : ⌊(7 / 2 : ℝ)⌋ = 3 := Int.floor_eq_iff.mpr (by norm_num)
  constructor <;> simp only [roundHalfEven, h1, h2] <;> norm_num

/-- P1, steps 2 and 3. -/
theorem test_exec_poll_switch_then_tail :
    let t := after (exec .poll { demo with bb := bits [0,1,1,0,1,1,1,1,0,1] })
    (t.mode, t.bb, t.returned) = (.figs, bits [0,1], [.fragment []]) := by decide

/-- P2, first row, first POLL (FMT = 1), and P6, step 5: the gate. -/
theorem test_exec_poll_formats_and_gates :
    (after (exec .poll { demo with bb := bits [0,1,1,0,0,0,1,1,0,0,0,0,1,0,1,1] })).returned = [.fragment ['A', '\n']] ∧
    (after (exec .poll { demo with bb := bits [1,1,1,0,1,1] })).bb = bits [1,1,1,0,1,1] := by decide

/-- P4, steps 3 and 4. -/
theorem test_exec_stop :
    let t := after (exec .stop { demo with bb := bits [0,1,1,0,1,1,1,1,0,0,0,0,0,1,1,1,0,1,1] })
    (t.mode, t.run, t.bb, t.returned) = (.figs, .stopped, bits [0,1,1], [.fragment ['5']]) ∧
    after (exec .poll t) = t := by decide +kernel

/-- P5, step 3. -/
theorem test_exec_abort :
    let t := after (exec .abort { demo with bb := bits [0,1,1,0,0,0,1,1], sb := [5] })
    (t.mode, t.run, t.bb, t.sb, t.returned) = (.lat, .stopped, [], [], [.error .sourceFailure]) := by decide

/-- P4, step 6. -/
theorem test_exec_reset :
    after (exec .reset { demo with mode := .figs, run := .stopped, bb := bits [0,1,1], sb := [1] }) = demo := by
  decide +kernel

theorem test_exec_sample :
    (after (exec (.sample 7) demo)).sb = [7] ∧ (after (exec (.sample 7) { demo with sb := [6] })).sb = [] ∧
    (after (exec (.sample 7) { demo with sb := [6] })).bb.length = 1 := by decide +kernel

theorem test_exec_push :
    let t := after (exec (.push [1, 2, 3, 4, 5]) demo)
    (t.sb, t.bb.length) = ([5], 2) := by decide +kernel

theorem test_exec_demod :
    let t := after (exec .demod { demo with sb := [1, 2, 3] })
    (t.sb, t.bb.length) = ([3], 1) ∧ (after (exec .demod { demo with sb := [1] })).sb = [1] := by decide +kernel

/-- P3's error cases (R180, R181). -/
theorem test_exec_batch :
    (after (exec (.batch []) demo)).returned = [.error .emptySignal] ∧
    (after (exec (.batch [⟨r 0, [r 5]⟩, ⟨r 0, []⟩]) demo)).returned = [.error .silentSignal] ∧
    (after (exec (.batch [⟨r (-4), []⟩]) demo)).returned = [.decoded []] := by decide +kernel

theorem test_preprocess_divides_by_maximum : preprocess [⟨r 2, [r 9]⟩, ⟨r (-4), [r 9]⟩] = .ok [1 / 2, -1] := by
  have h : silent (firstChannel [⟨r 2, [r 9]⟩, ⟨r (-4), [r 9]⟩]) = false := by decide +kernel
  simp [preprocess, h]
  norm_num [normalise, firstChannel, maxMagnitude, r, RealNumber.value]

/-! ### Hypotheses are met -/

/-- A watched POLL in front of two frames, and one in front of no complete item. -/
theorem witness_StepRunsFetchedItemOrEndsPoll :
    (atBits [0,1,1,0,0,0,1] .lat).evaluating = true ∧
    fetchItem (atBits [0,1,1,0,0,0,1] .lat) = .ok (.frame11000 1) ∧
    fetchItem (atBits [0,1,1,0,0,0] .lat) = .error .incompleteFrame := ⟨rfl, rfl, rfl⟩

theorem witness_StepServesNextRequest :
    demo.evaluating = false ∧ demo.pending = [] ∧
    { demo with pending := [.op .poll] }.pending = .op .poll :: [] ∧
    { demo with pending := [.bits [true]] }.pending = .bits [true] :: [] ∧ demo.run = .running ∧
    { demo with pending := [.pollByItems], run := .stopped }.run = .stopped ∧
    { demo with pending := [.pollByItems], bb := List.replicate 6 true }.bb.length < 7 ∧
    7 ≤ { demo with pending := [.pollByItems], bb := List.replicate 7 true }.bb.length := by decide

theorem witness_IdleBitIsPassedOver :
    (atBits [1] .lat).evaluating = true ∧ (atBits [1] .lat).bb[(atBits [1] .lat).sync.i]? = some true := by decide

theorem witness_FalseStartConsumesOneBit :
    (atBits [0,1,1,0,0,1,0] .lat).evaluating = true ∧
    (atBits [0,1,1,0,0,1,0] .lat).bb.drop (atBits [0,1,1,0,0,1,0] .lat).sync.i =
      false :: ((Code.of 1 1 0 0 1).toList ++ false :: []) := by decide

/-- One code of each kind, with the least and with a longer stop run. -/
theorem witness_FrameRunsItsCodeAndConsumesItsStopRun :
    (atBits [0,1,1,0,1,1,1] .lat).evaluating = true ∧ 1 ≤ 1 ∧ (bits []).head? ≠ some true ∧ (bits [0]).head? ≠ some true ∧
    (atBits [0,1,1,0,1,1,1] .lat).bb.drop 0 = false :: ((Code.of 1 1 0 1 1).toList ++ List.replicate 1 true ++ []) ∧
    cbDefault.switch.lookup (Code.of 1 1 0 1 1) = some .figs ∧
    (atBits [0,1,1,0,0,0,1,1,0] .lat).bb.drop 0 =
      false :: ((Code.of 1 1 0 0 0).toList ++ List.replicate 2 true ++ [false]) ∧
    cbDefault.switch.lookup (Code.of 1 1 0 0 0) = none ∧ (cbDefault.table .lat).lookup (Code.of 1 1 0 0 0) = some 'A' ∧
    (atBits [0,1,0,0,1,0,1] .figs).bb.drop 0 = false :: ((Code.of 1 0 0 1 0).toList ++ List.replicate 1 true ++ []) ∧
    cbDefault.switch.lookup (Code.of 1 0 0 1 0) = none ∧ (cbDefault.table .figs).lookup (Code.of 1 0 0 1 0) = none := by
  decide

theorem witness_EveryFrameInstructionExecutesItsOwnCode :
    1 ≤ 1 ∧ exec (.frame11000 1) demo = .next (demo.afterFrame (Code.of 1 1 0 0 0) 1 (some 'A', .lat)) := ⟨le_rfl, rfl⟩

/-- For the switch, literal and unmapped rows alike. -/
theorem witness_DefaultCodebookSwitchFrames : 1 ≤ 1 ∧ demo.cfg.params.codebook = cbDefault := ⟨le_rfl, rfl⟩

theorem witness_DefaultCodebookLiteralFrames :
    (atBits [] .lat).cfg.params.codebook = cbDefault ∧ (atBits [] .lat).sync.m = .lat ∧ (atBits [] .rus).sync.m = .rus ∧
    (atBits [] .figs).sync.m = .figs := ⟨rfl, rfl, rfl, rfl⟩

theorem witness_DefaultCodebookUnmappedFrame :
    (atBits [] .figs).cfg.params.codebook = cbDefault ∧ (atBits [] .lat).sync.m = .lat ∧ (atBits [] .rus).sync.m = .rus ∧
    (atBits [] .figs).sync.m = .figs := ⟨rfl, rfl, rfl, rfl⟩

theorem witness_FigsSwitchCodeEmitsNothing :
    demo.cfg.params.codebook.switch.lookup (Code.of 1 1 0 1 1) = some .figs ∧
    demoSrc.cfg.params.codebook.switch.lookup (Code.of 1 1 0 1 1) = some .figs := by decide

theorem witness_ExecLooksUpSwitchThenModeTable :
    demo.cfg.params.codebook.switch.lookup (Code.of 0 0 0 0 0) = some .rus ∧
    demo.cfg.params.codebook.switch.lookup (Code.of 1 0 0 1 0) = none ∧
    (demo.cfg.params.codebook.table .lat).lookup (Code.of 1 0 0 1 0) = some 'D' ∧
    (demo.cfg.params.codebook.table .figs).lookup (Code.of 1 0 0 1 0) = none := by decide

/-- A full window, exactly one, and one sample short. -/
theorem witness_DemodMovesOneWindowToOneBit :
    { demo with sb := [1, 2, 3] }.cfg.params.spb ≤ { demo with sb := [1, 2, 3] }.sb.length ∧
    { demo with sb := [1, 2] }.sb.length = { demo with sb := [1, 2] }.cfg.params.spb ∧
    { demo with sb := [1] }.sb.length < { demo with sb := [1] }.cfg.params.spb := by decide +kernel

/-- An arithmetic in which either energy may be the greater. -/
def lengthNumerics (mark space : Nat) : Numerics where
  E := Nat
  energy _ b _ := match b with
    | .mark => mark
    | .space => space
  gt a b := decide (b < a)
  gt_irrefl a := by simp
  gt_trans a b c h1 h2 := by simp at *; omega
  gt_weak a b c h := by simp at *; omega

theorem witness_DiscComparesBandEnergiesStrictly :
    (∀ f, disc (lengthNumerics 2 1) f 0 [] = true ∧ disc (lengthNumerics 1 2) f 0 [] = false ∧
      disc (lengthNumerics 1 1) f 0 [] = false) ∧
    Params.default.numerics = .exact ∧ Params.default.edge = .zeroState := by
  refine ⟨fun f => ⟨?_, ?_, ?_⟩, rfl, rfl⟩ <;> simp [disc, lengthNumerics]

theorem witness_ReferenceDiscIsScaleInvariant : 0 < Real.sqrt 2 := by norm_num

theorem witness_SyncFollowsItsTransitions : ([] : List Bit).length < 6 ∧ (List.replicate 5 true).length < 6 := by decide

theorem witness_EncodedTextRoundTrips :
    ((cbDefault.table .lat).map Prod.fst).Nodup ∧
    (∀ ch ∈ ['R', 'Y'], ∀ c, keyOf (cbDefault.table .lat) ch = some c → cbDefault.switch.lookup c = none) ∧
    encStr (cbDefault.table .lat) ['R', 'Y'] = some (enc (Code.of 0 1 0 1 0) ++ enc (Code.of 1 0 1 0 1)) := by
  refine ⟨by decide +kernel, fun ch h c hc => ?_, by decide⟩
  have hr : keyOf (cbDefault.table .lat) 'R' = some (Code.of 0 1 0 1 0) := by decide
  have hy : keyOf (cbDefault.table .lat) 'Y' = some (Code.of 1 0 1 0 1) := by decide
  simp only [List.mem_cons, List.not_mem_nil, or_false] at h
  obtain rfl | rfl := h
  · rw [hr] at hc; cases hc; decide
  · rw [hy] at hc; cases hc; decide

theorem witness_SpuriousZeroIsHarmlessOnlyBeforeFifthBitZero :
    (Code.of 1 1 0 0 0).d5 = false ∧ (Code.of 0 0 0 0 1).d5 = true ∧ ([] : List Bit).head? ≠ some true ∧ 1 ≤ 1 := by decide

theorem witness_ItemStepAdvancesByItsLength :
    (atBits [0,1,1,0,0,0,1] .lat).evaluating = true ∧
    fetchItem (atBits [0,1,1,0,0,0,1] .lat) = .ok (.frame11000 1) := ⟨rfl, rfl⟩

theorem witness_WatchedPollEqualsAtomicPoll :
    { demo with bb := bits [0,1,1,0,0,0,1] }.run = .running ∧ { demo with bb := bits [0,1,1,0,0,0,1] }.evaluating = false ∧
    { demo with bb := bits [0,1,1,0,0,0,1] }.sync = SyncRegs.rest ∧
    7 ≤ { demo with bb := bits [0,1,1,0,0,0,1] }.bb.length := by decide

theorem witness_ResetGivesResetValuesAndKeepsConfiguration : exec .reset demo = .next demo := rfl

/-- A sample that does not complete a window, and one that does. -/
theorem witness_SampleStoresOrCompletesAWindow :
    demo.run = .running ∧ demo.sb.length < demo.cfg.params.spb ∧ demo.sb.length + 1 < demo.cfg.params.spb ∧
    { demo with sb := [1] }.sb.length < demo.cfg.params.spb ∧
    { demo with sb := [1] }.sb.length + 1 = demo.cfg.params.spb := by decide +kernel

theorem witness_PushDemodulatesEveryWholeWindow :
    demo.run = .running ∧ { demo with sb := [1] }.sb.length < demo.cfg.params.spb := by decide +kernel

theorem witness_PushEqualsItsSamplesOneByOne :
    { demo with sb := [1] }.run = .running ∧ { demo with sb := [1] }.sb.length < { demo with sb := [1] }.cfg.params.spb := by
  decide +kernel

theorem witness_WindowBoundariesDependOnlyOnSampleCount :
    demo.run = .running ∧ demo.evaluating = false ∧ demo.sb.length < demo.cfg.params.spb ∧
    ∀ o ∈ [PortOp.sample 1, .push [2, 3]], deliversSamples o = true := by decide +kernel

/-- Six and seven bits, and the state of the rule's example. -/
theorem witness_PollReturnsOneFragment :
    demo.run = .running ∧ { demo with bb := List.replicate 6 true }.bb.length < 7 ∧
    7 ≤ { demo with bb := List.replicate 7 true }.bb.length ∧ demo.mode = .lat ∧
    demo.cfg.params.codebook.switch.lookup (Code.of 1 1 0 0 0) = none ∧
    demo.cfg.params.codebook.lat.lookup (Code.of 1 1 0 0 0) = some 'A' := by decide

theorem witness_PollLeavesBitsReadyFalse :
    exec .poll demo = .next { demo with returned := [.fragment []] } ∧ demo.run = .running ∧
    { demo with bb := List.replicate 6 true }.bitsReady = false ∧
    { demo with bb := List.replicate 7 true }.bitsReady = true := ⟨rfl, rfl, rfl, rfl⟩

theorem witness_StopIsOneLastPollThenStopped :
    demo.run = .running ∧ { demo with bb := List.replicate 6 true }.bb.length < 7 := by decide

theorem witness_AbortDiscardsBacklogsAndReportsSourceFailure :
    { demo with sb := [1], bb := [true] }.run = .running := rfl

theorem witness_StoppedSessionRefusesWithoutChange : { demo with run := .stopped }.run = .stopped := rfl

/-- A silent block, and one whose greatest magnitude is at a negative sample. -/
theorem witness_PreprocessNormalisesFirstChannelOrFails :
    ([⟨r 0, [r 1]⟩] : Signal) ≠ [] ∧ (∀ f ∈ ([⟨r 0, [r 1]⟩] : Signal), f.first.value = 0) ∧
    (∃ f ∈ ([⟨r 2, []⟩, ⟨r (-4), []⟩] : Signal), |f.first.value| = 4) ∧
    (∀ f ∈ ([⟨r 2, []⟩, ⟨r (-4), []⟩] : Signal), |f.first.value| ≤ 4) ∧ (4 : ℝ) ≠ 0 := by
  norm_num [r, RealNumber.value]

theorem witness_BatchDecodesOnceFromLatOrReportsError :
    ([⟨r 0, [r 1]⟩] : Signal) ≠ [] ∧ (∀ f ∈ ([⟨r 0, [r 1]⟩] : Signal), f.first.value = 0) ∧
    (∃ f ∈ ([⟨r 2, []⟩, ⟨r (-4), []⟩] : Signal), |f.first.value| = 4) ∧
    (∀ f ∈ ([⟨r 2, []⟩, ⟨r (-4), []⟩] : Signal), |f.first.value| ≤ 4) ∧ (4 : ℝ) ≠ 0 := by
  norm_num [r, RealNumber.value]

theorem witness_BatchIgnoresTheSession :
    demo.cfg = { demo with mode := .figs, run := .stopped, sb := [1], bb := [true] }.cfg ∧
    demo ≠ { demo with mode := .figs, run := .stopped, sb := [1], bb := [true] } :=
  ⟨rfl, fun h => absurd (congrArg State.mode h) (by decide)⟩

theorem witness_SessionTextEqualsOneSyncOfAllBits :
    demoSrc.run = .running ∧ demoSrc.evaluating = false ∧ demoSrc.cfg.params.fmt = false ∧
    demoSrc.sb.length < demoSrc.cfg.params.spb ∧
    ∀ o ∈ [PortOp.sample 1, .poll, .push [2, 3]], withinSession o = true := by decide +kernel

/-- A watched POLL past a switch frame, whose mode is not the session's. -/
def pastSwitch : State :=
  { demo with bb := bits [0,1,1,0,1,1,1], evaluating := true,
              sync := ⟨.seekStart, 7, Code.of 1 1 0 1 1, 7, 1, [], .figs⟩ }

/-- A session at rest meets the invariant if fewer samples than a window wait. -/
theorem inv_of_resting {s : State} (h1 : s.sb.length < s.cfg.params.spb) (h2 : s.evaluating = false)
    (h3 : s.sync = SyncRegs.rest) : s.Inv :=
  ⟨h1, fun _ => h3, fun h => absurd (h2.symm.trans h) (by decide), fun h => absurd (h2.symm.trans h) (by decide)⟩

theorem pastSwitch_inv : pastSwitch.Inv :=
  ⟨by decide +kernel, fun h => absurd h (by decide), fun _ => by decide,
    fun _ => .inr ⟨0, Code.of 1 1 0 1 1, 1, by decide, rfl, rfl⟩⟩

/-- The invariant holds of a state at rest with a sample waiting, and of a watched POLL past a switch frame; both step. -/
theorem witness_StepKeepsInvariant :
    { demo with sb := [1] }.Inv ∧ pastSwitch.Inv ∧ (∃ t, step { demo with sb := [1] } = .next t) ∧
    (∃ t, step pastSwitch = .next t) :=
  ⟨inv_of_resting (by decide +kernel) rfl rfl, pastSwitch_inv, ⟨_, rfl⟩, ⟨_, rfl⟩⟩

/-- Steps that change MODE: a POLL, a STOP, the end of a watched POLL, a RESET. -/
theorem witness_ModeChangesOnlyBySwitchCodeOrReset :
    { demo with pending := [.op .poll], bb := bits [0,1,1,0,1,1,1] }.Inv ∧
    (after (step { demo with pending := [.op .poll], bb := bits [0,1,1,0,1,1,1] })).mode = .figs ∧
    { demo with pending := [.op .stop], bb := bits [0,1,1,0,1,1,1] }.Inv ∧
    (after (step { demo with pending := [.op .stop], bb := bits [0,1,1,0,1,1,1] })).mode = .figs ∧
    pastSwitch.Inv ∧ (after (step pastSwitch)).mode = .figs ∧
    { demo with pending := [.op .reset], mode := .rus }.Inv ∧
    (after (step { demo with pending := [.op .reset], mode := .rus })).mode = .lat := by
  refine ⟨inv_of_resting (by decide +kernel) rfl rfl, by decide, inv_of_resting (by decide +kernel) rfl rfl, by decide,
    pastSwitch_inv, by decide, inv_of_resting (by decide +kernel) rfl rfl, by decide⟩

theorem witness_ConfigurationIsNeverWritten : exec .idle demo = .next { demo with sync := { demo.sync with i := 1 } } ∧
    step demo = .next demo := ⟨rfl, rfl⟩

/-- A case of each clause: a PUSH and a DEMOD that complete a window, a POLL of exactly 7 bits, and one of 6. -/
theorem witness_BacklogsChangeOnlyAtTheirEnds :
    (∃ t, exec (.push [1, 2, 3]) demo = .next t) ∧ demo.run = .running ∧
    (∃ t, exec .demod { demo with sb := [1, 2] } = .next t) ∧ demo.cfg.params.spb ≤ [1, 2].length ∧
    (∃ t, exec .poll { demo with bb := List.replicate 7 true } = .next t ∧ t.bb = []) ∧
    (∃ t, exec .poll { demo with bb := List.replicate 6 true } = .next t ∧ t.bb = List.replicate 6 true) ∧
    Instr.poll ≠ .reset ∧ Instr.poll ≠ .abort ∧ Instr.push [1, 2, 3] ≠ .reset ∧ Instr.push [1, 2, 3] ≠ .abort :=
  ⟨⟨_, rfl⟩, rfl, ⟨_, rfl⟩, by decide, ⟨_, rfl, by decide⟩, ⟨_, rfl, by decide⟩, by decide, by decide, by decide,
    by decide⟩

/-- A frame followed by a 0; IDLE and FALSESTART, which a 1 may follow. -/
theorem witness_DecodeReadsBackEveryEncodedItem :
    (Instr.frame11000 1).wellFormed = true ∧ encode (.frame11000 1) = some (bits [0,1,1,0,0,0,1]) ∧
    (bits [0, 1]).head? ≠ some true ∧
    Instr.idle.wellFormed = true ∧ encode .idle = some [true] ∧ (∀ c n, Instr.idle ≠ Instr.frameOf c n) ∧
    (Instr.falseStart (Code.of 1 1 1 1 1)).wellFormed = true ∧
    encode (.falseStart (Code.of 1 1 1 1 1)) = some (bits [0,1,1,1,1,1,0]) := by
  refine ⟨by decide, by decide, by decide, by decide, by decide, ?_, by decide, by decide⟩
  rintro ⟨_ | _, _ | _, _ | _, _ | _, _ | _⟩ n h <;> cases h

theorem witness_DecodedItemStandsAtTheFront :
    decodeItem (bits [0,1,1,0,0,0,1,0]) = .ok (.frame11000 1) ∧ decodeItem (bits [1]) = .ok .idle := ⟨rfl, rfl⟩

/-- A quotient midway between two integers occurs. -/
theorem witness_RoundingTakesTheNearestIntegerTiesToEven :
    |(5 / 2 : ℝ) - (2 : Int)| = 1 / 2 ∧ Even (2 : Int) ∧ |(9 / 4 : ℝ) - (2 : Int)| < 1 / 2 := by
  refine ⟨?_, by decide, ?_⟩ <;> norm_num [abs_of_pos]

theorem witness_DerivedValuesFollowTheirFormulas :
    testCfg.params.trim = true ∧ testCfg.params.untrimmed.trim = false := ⟨rfl, rfl⟩

/-- Two blocks with different Codebooks and formatting. -/
theorem witness_DiscReadsOnlyItsOwnParameters :
    let p := testParams cbDefault true
    let q := testParams cbSrc false
    p.markFreq = q.markFreq ∧ p.spaceFreq = q.spaceFreq ∧ p.halfWidth = q.halfWidth ∧ p.order = q.order ∧
    p.sampleRate = q.sampleRate ∧ p.trimLen = q.trimLen ∧ p.numerics = q.numerics ∧ p.edge = q.edge :=
  ⟨rfl, rfl, rfl, rfl, rfl, rfl, rfl, rfl⟩

/-- A session with one zero sample waiting. -/
def silentDemo : State := { demo with sb := [0] }

theorem witness_SilentPushGivesZerosInExactArithmetic :
    silentDemo.run = .running ∧ silentDemo.cfg.params.numerics = .exact ∧ silentDemo.cfg.params.edge = .zeroState ∧
    ∀ x ∈ silentDemo.sb, x = 0 := by
  refine ⟨rfl, rfl, rfl, fun x hx => ?_⟩
  simpa [silentDemo] using hx

theorem witness_NormalisingChangesNoBitInExactArithmetic :
    demo.cfg.params.numerics = .exact ∧ demo.cfg.params.edge = .zeroState ∧
    ∃ x, preprocess [⟨r 2, []⟩, ⟨r (-4), []⟩] = .ok x := by
  refine ⟨rfl, rfl, normalise (firstChannel [⟨r 2, []⟩, ⟨r (-4), []⟩]), ?_⟩
  have h : silent (firstChannel [⟨r 2, []⟩, ⟨r (-4), []⟩]) = false := by decide +kernel
  simp [preprocess, h]

end Sys2Proof.Machine.Tests
end

section
/-! The internal step DEMOD (R84): its meaning in each of its two cases, and the statement about it. -/

namespace Sys2Proof.Machine

/-- DEMOD as an instruction is the shared operation, with nothing handed back (R84: "no operands"). -/
theorem exec_demod (s : State) : exec .demod s = .next (demodStep s) := rfl

theorem exec_demod_of_window {s : State} (h : s.cfg.params.spb ≤ s.sb.length) :
    exec .demod s = .next ((s.withSb (s.sb.drop s.cfg.params.spb)).withBb
      (s.bb ++ [windowBit s.cfg.params ((s.sb.take s.cfg.params.spb).map sampleValue)])) := by
  rw [exec_demod, demodStep_of_window h]

theorem exec_demod_of_waiting {s : State} (h : s.sb.length < s.cfg.params.spb) : exec .demod s = .next s := by
  rw [exec_demod, demodStep_of_waiting h]

theorem demodStep_sb_of_exact_window {s : State} (h : s.sb.length = s.cfg.params.spb) : (demodStep s).sb = [] := by
  rw [demodStep_of_window h.ge, State.withBb_sb, State.withSb_sb, List.drop_of_length_le h.le]

/-- Settles O15, by DEMOD's two cases: a whole window waits, or the samples wait. With exactly one window waiting, the
drop of SPB samples leaves none. -/
theorem demodMovesOneWindowToOneBit : Obligations.DemodMovesOneWindowToOneBit := by
  intro s
  refine ⟨fun whole => ?_, fun exactly => ?_, fun short => ?_⟩
  · exact exec_demod_of_window whole
  · exact ⟨demodStep s, exec_demod s, demodStep_sb_of_exact_window exactly⟩
  · exact exec_demod_of_waiting short

end Sys2Proof.Machine
end

section
/-! The synchroniser's loop (R110, R111, R118): how a round advances, where the loop ends, and `Sync` of one frame alone. -/

namespace Sys2Proof.Machine

theorem syncRound_of_no_bits (cb : Codebook) (ph : Char) {bits : List Bit} {r : SyncRegs} (h : bits.length ≤ r.i) :
    syncRound cb ph bits r = none := if_pos h

/-- A round moves the index forward (R118). -/
theorem syncRound_advances {cb : Codebook} {ph : Char} {bits : List Bit} {r r' : SyncRegs}
    (h : syncRound cb ph bits r = some r') : r.i < r'.i := by
  obtain ⟨-, -, rfl⟩ | ⟨-, -, rfl⟩ := syncRound_cases h
  · exact Nat.lt_succ_self _
  · rcases Nat.eq_zero_or_pos (onesRun (bits.drop (r.i + 6))) with none_stop | some_stop
    · rw [none_stop, SyncRegs.attempt_falseStart]
      exact Nat.lt_succ_self _
    · rw [SyncRegs.attempt_frame _ _ _ _ some_stop]
      dsimp only
      omega

theorem syncRounds_of_round {cb : Codebook} {ph : Char} {bits : List Bit} {r r' : SyncRegs} (fuel : Nat)
    (h : syncRound cb ph bits r = some r') : syncRounds cb ph bits (fuel + 1) r = syncRounds cb ph bits fuel r' := by
  simp only [syncRounds, h]

theorem syncRounds_of_end {cb : Codebook} {ph : Char} {bits : List Bit} {r : SyncRegs} (fuel : Nat)
    (h : syncRound cb ph bits r = none) : syncRounds cb ph bits fuel r = r := by
  cases fuel with
  | zero => rfl
  | succ fuel => simp only [syncRounds, h]

/-- As many rounds as bits are left bring the loop to its end (R118). -/
theorem syncRounds_ends (cb : Codebook) (ph : Char) (bits : List Bit) (fuel : Nat) (r : SyncRegs)
    (enough : bits.length ≤ r.i + fuel) : syncRound cb ph bits (syncRounds cb ph bits fuel r) = none := by
  induction fuel generalizing r with
  | zero => exact syncRound_of_no_bits cb ph enough
  | succ fuel ih =>
    cases round : syncRound cb ph bits r with
    | none => rw [syncRounds_of_end _ round, round]
    | some r' =>
      have forward := syncRound_advances round
      rw [syncRounds_of_round fuel round]
      exact ih r' (by omega)

theorem head?_drop_of_bitAt {bits : List Bit} {k : Nat} (h : k < bits.length) :
    (bits.drop k).head? = some (bitAt bits k) := by
  rw [List.head?_drop, bitAt, List.getD_eq_getElem?_getD, List.getElem?_eq_getElem h, Option.getD_some]

/-- What `Sync` leaves is nothing, or a 0 followed by at most five bits (R111). -/
theorem syncBits_rest (cb : Codebook) (ph : Char) (bits : List Bit) (m0 : Mode) :
    bits.drop (syncBits cb ph bits m0).consumed = [] ∨
    ((bits.drop (syncBits cb ph bits m0).consumed).head? = some false ∧
      (bits.drop (syncBits cb ph bits m0).consumed).length ≤ 6) := by
  have ended := syncRounds_ends cb ph bits bits.length (SyncRegs.start m0) (Nat.le_add_left _ _)
  obtain no_bits | ⟨inside, zero, short⟩ := syncRound_none ended
  · exact .inl (List.drop_of_length_le no_bits)
  · refine .inr ⟨(head?_drop_of_bitAt inside).trans (congrArg some zero), ?_⟩
    rw [List.length_drop]
    dsimp only [syncBits]
    omega

theorem encS_length (c : Code) (n : Nat) : (encS c n).length = n + 6 := by
  simp [encS, Code.toList]

/-- At the start of one encoded frame the first round is T2, T3, T4 on that frame (R104 to R106). -/
theorem syncRound_encS (cb : Codebook) (ph : Char) (c : Code) {n : Nat} (m : Mode) (h : 1 ≤ n) :
    syncRound cb ph (encS c n) (SyncRegs.start m) = some ((SyncRegs.start m).attempt cb ph c n) := by
  have some_bits : ¬ (encS c n).length ≤ (SyncRegs.start m).i := by rw [encS_length]; simp [SyncRegs.start]
  have start_bit : ¬ bitAt (encS c n) (SyncRegs.start m).i = true := Bool.false_ne_true
  have whole : ¬ (encS c n).length - (SyncRegs.start m).i < 7 := by rw [encS_length]; dsimp only [SyncRegs.start]; omega
  have stop_run : onesRun ((encS c n).drop ((SyncRegs.start m).i + 6)) = n :=
    Laws.onesRun_replicate n
  rw [syncRound, if_neg some_bits, if_neg start_bit, if_neg whole, stop_run]
  rfl

/-- `Sync` of one encoded frame alone is `Exec` of its code, and consumes the frame whole. -/
theorem syncBits_encS (cb : Codebook) (ph : Char) (c : Code) {n : Nat} (m : Mode) (h : 1 ≤ n) :
    syncBits cb ph (encS c n) m = ⟨(execCode cb ph c m).1.toList, 6 + n, (execCode cb ph c m).2⟩ := by
  have first := syncRound_encS cb ph c m h
  rw [SyncRegs.attempt_frame cb ph c _ h] at first
  dsimp only [syncBits]
  rw [encS_length, syncRounds_of_round _ first,
    syncRounds_of_end _ (syncRound_of_no_bits cb ph (by simp [encS_length, SyncRegs.start, Nat.add_comm]))]
  simp [SyncRegs.start]

end Sys2Proof.Machine
end

section
/-! The operation POLL (R166): its meaning on either side of the gate, and the statement about it. -/

namespace Sys2Proof.Machine

theorem exec_poll_of_running {s : State} (running : s.run = .running) : exec .poll s = .next (pollEffect s) :=
  congrArg Host.Outcome.next (whenRunning_of_running pollEffect running)

/-- Below the gate POLL hands back an empty fragment. -/
theorem exec_poll_of_short {s : State} (running : s.run = .running) (short : s.bb.length < 7) :
    exec .poll s = .next (s.respond (.fragment [])) := by
  rw [exec_poll_of_running running, pollEffect, if_pos short]

/-- From the gate on POLL delivers one `Sync` over BB. -/
theorem exec_poll_of_full {s : State} (running : s.run = .running) (full : 7 ≤ s.bb.length) :
    exec .poll s = .next (s.deliver (s.syncWith s.bb s.mode)) := by
  rw [exec_poll_of_running running, pollEffect, if_neg (Nat.not_lt.mpr full)]

/-- The BB that the delivery of `Sync` over BB leaves is below the gate (R111). -/
theorem deliver_syncWith_bb_short (s : State) : (s.deliver (s.syncWith s.bb s.mode)).bb.length < 7 := by
  rw [State.deliver_bb]
  obtain empty | ⟨-, short⟩ := syncBits_rest s.cfg.params.codebook s.cfg.params.placeholder s.bb s.mode
  · rw [State.syncWith, empty]; exact Nat.zero_lt_succ _
  · exact Nat.lt_succ_of_le short

/-- The worked example of R166: one LAT frame whose code stands for `A` is `Sync`ed to `A`, all 8 bits consumed. -/
theorem syncBits_enc_A {cb : Codebook} (ph : Char) (no_switch : cb.switch.lookup (Code.of 1 1 0 0 0) = none)
    (is_A : cb.lat.lookup (Code.of 1 1 0 0 0) = some 'A') :
    syncBits cb ph (enc (Code.of 1 1 0 0 0)) .lat = ⟨['A'], 8, .lat⟩ := by
  have code_A : execCode cb ph (Code.of 1 1 0 0 0) .lat = (some 'A', .lat) := by
    simp only [execCode, no_switch, Codebook.table, is_A]
  rw [enc, syncBits_encS cb ph _ .lat one_le_two, code_A]
  rfl

/-- Settles O34, by the two sides of POLL's gate. What `Sync` leaves is below the gate, so the second POLL is on the
short side. -/
theorem pollReturnsOneFragment : Obligations.PollReturnsOneFragment := by
  refine ⟨fun s running short => ?_, fun s running full => ?_, fun s running lat bits no_switch is_A => ?_⟩
  · exact exec_poll_of_short running short
  · exact ⟨exec_poll_of_full running full, syncBits_rest _ _ _ _,
      exec_poll_of_short (s := s.deliver (s.syncWith s.bb s.mode)) running (deliver_syncWith_bb_short s)⟩
  · have frame : s.bb = enc (Code.of 1 1 0 0 0) := bits
    have synced : s.syncWith s.bb s.mode = ⟨['A'], 8, .lat⟩ := by
      rw [frame, lat]; exact syncBits_enc_A _ no_switch is_A
    have formatted : formatText ['A'] = ['A'] := by decide
    rw [exec_poll_of_full running (by rw [bits]; decide), synced]
    refine congrArg Host.Outcome.next (State.ext_fields _ _ rfl lat.symm rfl rfl ?_ rfl rfl rfl ?_)
    · rw [State.deliver_bb, frame]; rfl
    · rw [State.deliver_returned, formatted, ite_self]

end Sys2Proof.Machine
end

section
/-! The maximum magnitude of a block and Preprocess (R171). -/

namespace Sys2Proof.Machine

theorem abs_value_le_maxMagnitude {y : List RealNumber} {v : RealNumber} (h : v ∈ y) : |v.value| ≤ maxMagnitude y := by
  induction y with
  | nil => exact absurd h List.not_mem_nil
  | cons w y ih =>
    rcases List.mem_cons.mp h with rfl | inside
    · exact le_max_left _ _
    · exact (ih inside).trans (le_max_right _ _)

theorem maxMagnitude_le {y : List RealNumber} {b : ℝ} (nonneg : 0 ≤ b) (h : ∀ v ∈ y, |v.value| ≤ b) :
    maxMagnitude y ≤ b := by
  induction y with
  | nil => exact nonneg
  | cons w y ih =>
    obtain ⟨first, others⟩ := List.forall_mem_cons.mp h
    exact max_le first (ih others)

theorem mem_firstChannel {raw : Signal} {v : RealNumber} : v ∈ firstChannel raw ↔ ∃ f ∈ raw, f.first = v := List.mem_map

/-- A bound that some sample of the first channel attains is its maximum magnitude. -/
theorem maxMagnitude_firstChannel_eq {raw : Signal} {big : ℝ} (attained : ∃ f ∈ raw, |f.first.value| = big)
    (bound : ∀ f ∈ raw, |f.first.value| ≤ big) : maxMagnitude (firstChannel raw) = big := by
  obtain ⟨f, inside, rfl⟩ := attained
  refine le_antisymm (maxMagnitude_le (abs_nonneg _) fun v hv => ?_)
    (abs_value_le_maxMagnitude (mem_firstChannel.mpr ⟨f, inside, rfl⟩))
  obtain ⟨g, hg, rfl⟩ := mem_firstChannel.mp hv
  exact bound g hg

/-- Preprocess of a block with a moment whose first channel is silent (R181). -/
theorem preprocess_of_silent {raw : Signal} (some_moment : raw ≠ []) (zero : maxMagnitude (firstChannel raw) = 0) :
    preprocess raw = .error .silentSignal := by
  obtain ⟨empty, -⟩ | ⟨-, -, answer⟩ | ⟨-, loud, -⟩ := preprocess_cases raw
  · exact absurd empty some_moment
  · exact answer
  · exact absurd zero loud

/-- Preprocess of a block whose first channel is not silent. -/
theorem preprocess_of_loud {raw : Signal} (loud : maxMagnitude (firstChannel raw) ≠ 0) :
    preprocess raw = .ok (raw.map fun f => f.first.value / maxMagnitude (firstChannel raw)) := by
  obtain ⟨rfl, -⟩ | ⟨-, zero, -⟩ | ⟨-, -, answer⟩ := preprocess_cases raw
  · exact absurd rfl loud
  · exact absurd zero loud
  · rw [answer]
    exact congrArg Except.ok List.map_map

/-- Settles O39, by Preprocess's three answers: the greatest magnitude of the statement is the model's, and is 0 on a
silent block. -/
theorem preprocessNormalisesFirstChannelOrFails : Obligations.PreprocessNormalisesFirstChannelOrFails := by
  refine ⟨rfl, fun raw some_moment zeros => ?_, fun raw big attained bound loud => ?_⟩
  · obtain ⟨f, inside⟩ := List.exists_mem_of_ne_nil raw some_moment
    have magnitude_zero : ∀ g ∈ raw, |g.first.value| = 0 := fun g hg => abs_eq_zero.mpr (zeros g hg)
    exact preprocess_of_silent some_moment
      (maxMagnitude_firstChannel_eq ⟨f, inside, magnitude_zero f inside⟩ fun g hg => (magnitude_zero g hg).le)
  · obtain rfl := maxMagnitude_firstChannel_eq attained bound
    have positive : 0 < maxMagnitude (firstChannel raw) := (maxMagnitude_nonneg _).lt_of_ne' loud
    refine ⟨preprocess_of_loud loud, List.length_map _, fun v hv => ?_, ?_⟩
    · obtain ⟨f, inside, rfl⟩ := List.mem_map.mp hv
      rw [← abs_le, abs_div, abs_of_pos positive]
      exact (div_le_one positive).mpr (bound f inside)
    · obtain ⟨f, inside, greatest⟩ := attained
      refine ⟨_, List.mem_map_of_mem inside, ?_⟩
      rw [abs_div, greatest, abs_of_pos positive, div_self loud]

end Sys2Proof.Machine
end

section
/-! The instructions by kind (R59, R77): the 32 frames are one constructor `Instr.frameOf` of a code and a stop length,
and each function of an instruction has one equation for them. -/

namespace Sys2Proof

theorem Instr.frameOf_consumedBits (c : Code) (n : Nat) : consumedBits (Instr.frameOf c n) = 6 + n := by
  obtain ⟨_ | _, _ | _, _ | _, _ | _, _ | _⟩ := c <;> rfl

theorem Instr.frameOf_wellFormed (c : Code) (n : Nat) : (Instr.frameOf c n).wellFormed = stopLengthOk n := by
  obtain ⟨_ | _, _ | _, _ | _, _ | _, _ | _⟩ := c <;> rfl

theorem encode_frameOf (c : Code) (n : Nat) : encode (Instr.frameOf c n) = some (encS c n) := by
  obtain ⟨_ | _, _ | _, _ | _, _ | _, _ | _⟩ := c <;> rfl

/-- A property of every `Instr.frameOf` holds of each constructor whose encoding is that of a frame. -/
theorem Instr.frame_case {motive : Instr → Prop} (frame : ∀ c n, motive (Instr.frameOf c n)) {i : Instr} {c : Code}
    {n : Nat} (_own_bits : encode i = some (encS c n)) (own_code : Instr.frameOf c n = i) : motive i :=
  own_code ▸ frame c n

/-- Case analysis of an instruction by its row's kind, the 32 frames taken together. -/
theorem Instr.cases_by_kind {motive : Instr → Prop} (frame : ∀ c n, motive (Instr.frameOf c n)) (idle : motive .idle)
    (falseStart : ∀ d, motive (.falseStart d)) (reset : motive .reset) (sample : ∀ x, motive (.sample x))
    (push : ∀ chunk, motive (.push chunk)) (poll : motive .poll) (batch : ∀ raw, motive (.batch raw))
    (stop : motive .stop) (abort : motive .abort) (demod : motive .demod) (sync : ∀ b m, motive (.sync b m))
    (exec : ∀ c m, motive (.exec c m)) (format : ∀ t, motive (.format t)) (i : Instr) : motive i := by
  cases i with
  | idle => exact idle
  | falseStart d => exact falseStart d
  | reset => exact reset
  | sample x => exact sample x
  | push chunk => exact push chunk
  | poll => exact poll
  | batch raw => exact batch raw
  | stop => exact stop
  | abort => exact abort
  | demod => exact demod
  | sync b m => exact sync b m
  | exec c m => exact exec c m
  | format t => exact format t
  | _ => exact Instr.frame_case frame rfl rfl

/-- Which instructions have bits, and which bits (R60, R61, R77). -/
theorem encode_cases {i : Instr} {bits : List Bit} (h : encode i = some bits) :
    (i = .idle ∧ bits = [true]) ∨ (∃ d, i = .falseStart d ∧ bits = false :: d.toList ++ [false]) ∨
      ∃ c n, i = Instr.frameOf c n ∧ bits = encS c n := by
  cases i using Instr.cases_by_kind with
  | frame c n =>
    rw [encode_frameOf] at h
    exact .inr (.inr ⟨c, n, rfl, (Option.some.inj h).symm⟩)
  | idle => exact .inl ⟨rfl, (Option.some.inj h).symm⟩
  | falseStart d => exact .inr (.inl ⟨d, rfl, (Option.some.inj h).symm⟩)
  | _ => cases h

end Sys2Proof

namespace Sys2Proof.Machine

/-- Every frame instruction is an attempt with its own code and stop length (R104 to R106). -/
theorem exec_frameOf (c : Code) (n : Nat) (s : State) : exec (Instr.frameOf c n) s = .next (frameEffect c n s) := by
  obtain ⟨_ | _, _ | _, _ | _, _ | _, _ | _⟩ := c <;> rfl

end Sys2Proof.Machine
end

section
/-! The stop run (R105) and the five ways a bit sequence can begin (R59, R66, R108). -/

namespace Sys2Proof

theorem onesRun_of_head?_ne {bits : List Bit} (h : bits.head? ≠ some true) : onesRun bits = 0 := by
  cases bits with
  | nil => rfl
  | cons b bits =>
    cases b with
    | false => rfl
    | true => exact absurd rfl h

theorem onesRun_replicate_append (n : Nat) (bits : List Bit) :
    onesRun (List.replicate n true ++ bits) = n + onesRun bits := by
  induction n with
  | zero => simp
  | succ n ih =>
    rw [List.replicate_succ, List.cons_append, onesRun, ih]
    omega

/-- A bit sequence is its stop run and the rest. -/
theorem replicate_onesRun_append_drop (bits : List Bit) :
    List.replicate (onesRun bits) true ++ bits.drop (onesRun bits) = bits := by
  induction bits with
  | nil => rfl
  | cons b bits ih =>
    cases b with
    | false => rfl
    | true => simpa [onesRun, List.replicate_succ] using ih

/-- After its stop run a sequence ends or goes on with a 0 (R105, R109). -/
theorem head?_drop_onesRun (bits : List Bit) : (bits.drop (onesRun bits)).head? ≠ some true := by
  induction bits with
  | nil => exact nofun
  | cons b bits ih =>
    cases b with
    | false => exact nofun
    | true => exact ih

@[simp] theorem Code.toList_length (c : Code) : c.toList.length = 5 := rfl

/-- Case analysis of a bit sequence by how it begins: no bit, a 1, a 0 with too few bits after it, a 0 and five bits and
a 0, a 0 and five bits and a 1. -/
theorem bits_cases {motive : List Bit → Prop} (empty : motive []) (one : ∀ rest, motive (true :: rest))
    (short : ∀ rest, rest.length < 6 → motive (false :: rest))
    (falseStart : ∀ (d : Code) (rest), motive (false :: (d.toList ++ false :: rest)))
    (frame : ∀ (c : Code) (rest), motive (false :: (c.toList ++ true :: rest))) (bits : List Bit) : motive bits := by
  match bits with
  | [] => exact empty
  | true :: rest => exact one rest
  | false :: d1 :: d2 :: d3 :: d4 :: d5 :: false :: rest => exact falseStart ⟨d1, d2, d3, d4, d5⟩ rest
  | false :: d1 :: d2 :: d3 :: d4 :: d5 :: true :: rest => exact frame ⟨d1, d2, d3, d4, d5⟩ rest
  | [false] | [false, _] | [false, _, _] | [false, _, _, _] | [false, _, _, _, _] | [false, _, _, _, _, _] =>
    exact short _ (by simp)

/-- Induction along the items of a bit sequence: each item but an incomplete one leaves a shorter sequence. -/
theorem bits_induction {motive : List Bit → Prop} (empty : motive [])
    (one : ∀ rest, motive rest → motive (true :: rest))
    (short : ∀ rest, rest.length < 6 → motive (false :: rest))
    (falseStart : ∀ (d : Code) (rest), motive (d.toList ++ false :: rest) →
      motive (false :: (d.toList ++ false :: rest)))
    (frame : ∀ (c : Code) (rest), motive rest → motive (false :: (c.toList ++ true :: rest))) (bits : List Bit) :
    motive bits := by
  induction n : bits.length using Nat.strongRecOn generalizing bits with
  | ind n ih =>
    subst n
    cases bits using bits_cases with
    | empty => exact empty
    | one rest => exact one rest (ih _ (by simp) rest rfl)
    | short rest few => exact short rest few
    | falseStart d rest => exact falseStart d rest (ih _ (by simp) _ rfl)
    | frame c rest => exact frame c rest (ih _ (by simp; omega) rest rfl)

end Sys2Proof
end

section
/-! The decoder (R59 to R67, R108): its equations, its inversion, and the statements about it. -/

namespace Sys2Proof

theorem decodeItem_falseStart (d : Code) (rest : List Bit) :
    decodeItem (false :: (d.toList ++ false :: rest)) = .ok (.falseStart d) := rfl

theorem decodeItem_frame (c : Code) (rest : List Bit) :
    decodeItem (false :: (c.toList ++ true :: rest)) = .ok (Instr.frameOf c (onesRun rest + 1)) := rfl

theorem decodeItem_incomplete {rest : List Bit} (few : rest.length < 6) :
    decodeItem (false :: rest) = .error .incompleteFrame := by
  match rest, few with
  | [], _ | [_], _ | [_, _], _ | [_, _, _], _ | [_, _, _, _], _ | [_, _, _, _, _], _ => rfl

/-- The bits of a frame, a sequence that does not lengthen its stop run after them. -/
theorem decodeItem_encS_append (c : Code) {n : Nat} (some_stop : 1 ≤ n) {rest : List Bit}
    (ends : rest.head? ≠ some true) : decodeItem (encS c n ++ rest) = .ok (Instr.frameOf c n) := by
  obtain ⟨k, rfl⟩ := Nat.exists_eq_add_of_le' some_stop
  have bits : encS c (k + 1) ++ rest = false :: (c.toList ++ true :: (List.replicate k true ++ rest)) := by
    simp [encS, List.replicate_succ]
  rw [bits, decodeItem_frame, onesRun_replicate_append, onesRun_of_head?_ne ends, Nat.add_zero]

/-- What the decoder can read (R59). -/
theorem decodeItem_cases {bits : List Bit} {i : Instr} (h : decodeItem bits = .ok i) :
    (∃ rest, bits = true :: rest ∧ i = .idle) ∨
    (∃ d rest, bits = false :: (Code.toList d ++ false :: rest) ∧ i = .falseStart d) ∨
    (∃ c rest, bits = false :: (Code.toList c ++ true :: rest) ∧ i = Instr.frameOf c (onesRun rest + 1)) := by
  cases bits using bits_cases with
  | empty => cases h
  | one rest => exact .inl ⟨rest, rfl, (Except.ok.inj h).symm⟩
  | short rest few =>
    rw [decodeItem_incomplete few] at h
    cases h
  | falseStart d rest => exact .inr (.inl ⟨d, rest, rfl, (Except.ok.inj h).symm⟩)
  | frame c rest => exact .inr (.inr ⟨c, rest, rfl, (Except.ok.inj h).symm⟩)

/-- The encoding of a frame stands at the front of the sequence it was read from. -/
theorem frame_bits_eq_encS_append (c : Code) (rest : List Bit) :
    false :: (c.toList ++ true :: rest) = encS c (onesRun rest + 1) ++ rest.drop (onesRun rest) := by
  conv_lhs => rw [← replicate_onesRun_append_drop rest]
  simp [encS, List.replicate_succ]

/-- Settles O48, by the three kinds of instruction that have bits. -/
theorem decodeReadsBackEveryEncodedItem : Obligations.DecodeReadsBackEveryEncodedItem := by
  intro i bits rest well_formed own ends
  obtain ⟨rfl, rfl⟩ | ⟨d, rfl, rfl⟩ | ⟨c, n, rfl, rfl⟩ := encode_cases own
  · rfl
  · exact decodeItem_falseStart d rest
  · rw [Instr.frameOf_wellFormed] at well_formed
    exact decodeItem_encS_append c (of_decide_eq_true well_formed) (ends ⟨c, n, rfl⟩)

theorem idle_ne_frameOf (c : Code) (n : Nat) : Instr.idle ≠ Instr.frameOf c n := fun h => by
  have bits := congrArg encode h
  rw [encode_frameOf] at bits
  cases bits

theorem falseStart_ne_frameOf (d c : Code) {n : Nat} : Instr.falseStart d ≠ Instr.frameOf c n := fun h => by
  have consumed := congrArg consumedBits h
  rw [Instr.frameOf_consumedBits, consumedBits] at consumed
  omega

/-- Settles O49, by the three kinds of item the decoder reads. -/
theorem decodedItemStandsAtTheFront : Obligations.DecodedItemStandsAtTheFront := by
  intro bits i read
  obtain ⟨rest, rfl, rfl⟩ | ⟨d, rest, rfl, rfl⟩ | ⟨c, rest, rfl, rfl⟩ := decodeItem_cases read
  · exact ⟨rfl, le_rfl, by simp [consumedBits], [true], rest, rfl, rfl,
      fun c n same => absurd same (idle_ne_frameOf c n)⟩
  · exact ⟨rfl, le_rfl, by simp [consumedBits], _, rest, rfl, by simp,
      fun c n same => absurd same (falseStart_ne_frameOf d c)⟩
  · have inside := Machine.onesRun_le_length rest
    rw [Instr.frameOf_wellFormed, Instr.frameOf_consumedBits]
    refine ⟨decide_eq_true (Nat.le_add_left 1 _), by omega, by simp; omega, _, rest.drop (onesRun rest),
      encode_frameOf c _, frame_bits_eq_encS_append c rest, fun _ _ _ => head?_drop_onesRun rest⟩

/-- Settles O50, by the five ways a bit sequence can begin. -/
theorem decoderRejectsOnlyTheEndAndIncompleteFrames : Obligations.DecoderRejectsOnlyTheEndAndIncompleteFrames := by
  intro bits
  cases bits using bits_cases with
  | empty => simp [decodeItem]
  | one rest => simp [decodeItem]
  | short rest few =>
    rw [decodeItem_incomplete few]
    simp
    omega
  | falseStart d rest =>
    rw [decodeItem_falseStart]
    simp
    omega
  | frame c rest =>
    rw [decodeItem_frame]
    simp
    omega

/-- Settles O51: the decoder runs on each word. -/
theorem decodedWordsOfTheSpec : Obligations.DecodedWordsOfTheSpec := ⟨rfl, rfl, rfl, rfl, rfl, rfl⟩

end Sys2Proof
end

section
/-! A round of the synchroniser by what stands at its index (R103 to R108), and what every round keeps. -/

namespace Sys2Proof.Machine

theorem bitAt_drop (bits : List Bit) (i k : Nat) : bitAt (bits.drop i) k = bitAt bits (i + k) := by
  simp [bitAt]

theorem codeAt_drop (bits : List Bit) (i k : Nat) : codeAt (bits.drop i) k = codeAt bits (i + k) := by
  simp [codeAt, bitAt_drop, Nat.add_assoc]

@[simp] theorem codeAt_toList (b : Bit) (c : Code) (rest : List Bit) : codeAt (b :: (c.toList ++ rest)) 1 = c := rfl

section
variable (cb : Codebook) (ph : Char) {bits rest : List Bit} {r : SyncRegs}

theorem syncRound_at_end (h : bits.drop r.i = []) : syncRound cb ph bits r = none :=
  syncRound_of_no_bits cb ph (List.drop_eq_nil_iff.mp h)

/-- T1. -/
theorem syncRound_at_one (h : bits.drop r.i = true :: rest) : syncRound cb ph bits r = some r.t1 := by
  have size := congrArg List.length h
  have front : bitAt bits r.i = true := by rw [← Nat.add_zero r.i, ← bitAt_drop, h]; rfl
  rw [List.length_drop, List.length_cons] at size
  rw [syncRound, if_neg (by omega), if_pos front]

theorem syncRound_at_zero (h : bits.drop r.i = false :: rest) : syncRound cb ph bits r =
    if rest.length < 6 then none else some (r.attempt cb ph (codeAt (false :: rest) 1) (onesRun (rest.drop 5))) := by
  have size := congrArg List.length h
  have front : bitAt bits r.i = false := by rw [← Nat.add_zero r.i, ← bitAt_drop, h]; rfl
  have stop : bits.drop (r.i + 6) = rest.drop 5 := by rw [← List.drop_drop, h]; rfl
  rw [List.length_drop, List.length_cons] at size
  rw [syncRound, if_neg (by omega), if_neg (by rw [front]; exact Bool.false_ne_true), ← codeAt_drop, h, stop]
  exact if_congr (by omega) rfl rfl

/-- The tail of R108. -/
theorem syncRound_at_incomplete (h : bits.drop r.i = false :: rest) (few : rest.length < 6) :
    syncRound cb ph bits r = none := by
  rw [syncRound_at_zero cb ph h, if_pos few]

/-- T2, T3, T5. -/
theorem syncRound_at_falseStart {d : Code} (h : bits.drop r.i = false :: (d.toList ++ false :: rest)) :
    syncRound cb ph bits r = some (r.attempt cb ph d 0) := by
  rw [syncRound_at_zero cb ph h, if_neg (by simp; omega), codeAt_toList]
  rfl

/-- T2, T3, T4. -/
theorem syncRound_at_frame {c : Code} (h : bits.drop r.i = false :: (c.toList ++ true :: rest)) :
    syncRound cb ph bits r = some (r.attempt cb ph c (onesRun rest + 1)) := by
  rw [syncRound_at_zero cb ph h, if_neg (by simp; omega), codeAt_toList]
  rfl

end

/-- A round stays within the bits and looks for a start bit after it (R101, R111). -/
theorem syncRound_inside {cb : Codebook} {ph : Char} {bits : List Bit} {r r' : SyncRegs}
    (h : syncRound cb ph bits r = some r') : r'.i ≤ bits.length ∧ r'.control = .seekStart := by
  obtain ⟨inside, -, rfl⟩ | ⟨inside, -, rfl⟩ := syncRound_cases h
  · exact ⟨inside, rfl⟩
  · have stop_run := onesRun_le_length (bits.drop (r.i + 6))
    rw [List.length_drop] at stop_run
    rcases Nat.eq_zero_or_pos (onesRun (bits.drop (r.i + 6))) with none_stop | some_stop
    · rw [none_stop, SyncRegs.attempt_falseStart]
      exact ⟨by dsimp only; omega, rfl⟩
    · rw [SyncRegs.attempt_frame _ _ _ _ some_stop]
      exact ⟨by dsimp only; omega, rfl⟩

theorem syncRounds_inside (cb : Codebook) (ph : Char) (bits : List Bit) (fuel : Nat) (r : SyncRegs)
    (inside : r.i ≤ bits.length) : (syncRounds cb ph bits fuel r).i ≤ bits.length := by
  induction fuel generalizing r with
  | zero => exact inside
  | succ fuel ih =>
    cases round : syncRound cb ph bits r with
    | none => rwa [syncRounds_of_end _ round]
    | some r' =>
      rw [syncRounds_of_round _ round]
      exact ih r' (syncRound_inside round).1

/-! ### Where the mode comes from (R123) -/

theorem SwitchFrameWithin.mono {cb : Codebook} {bits : List Bit} {n n' : Nat} {m : Mode} (le : n ≤ n')
    (h : SwitchFrameWithin cb bits n m) : SwitchFrameWithin cb bits n' m := by
  obtain ⟨k, code, stop, inside, item, target⟩ := h
  exact ⟨k, code, stop, inside.trans le, item, target⟩

theorem execCode_mode_of_no_switch {cb : Codebook} (ph : Char) {c : Code} (m : Mode) (h : cb.switch.lookup c = none) :
    (execCode cb ph c m).2 = m := by
  obtain ⟨target, found, -⟩ | ⟨ch, -, -, run⟩ | ⟨-, -, run⟩ := execCode_cases cb ph c m
  · exact absurd (h.symm.trans found) nofun
  · rw [run]
  · rw [run]

/-- The mode of the registers is `m0`, or the target of a switch frame before the index. -/
def SyncRegs.ModeFrom (cb : Codebook) (bits : List Bit) (m0 : Mode) (r : SyncRegs) : Prop :=
  r.m = m0 ∨ SwitchFrameWithin cb bits r.i r.m

/-- A round keeps the origin of the mode: only a switch frame, which then stands before the index, changes it. -/
theorem syncRound_modeFrom {cb : Codebook} {ph : Char} {bits : List Bit} {m0 : Mode} {r r' : SyncRegs}
    (origin : r.ModeFrom cb bits m0) (h : syncRound cb ph bits r = some r') : r'.ModeFrom cb bits m0 := by
  have forward := syncRound_advances h
  have of_same_mode (same : r'.m = r.m) : r'.ModeFrom cb bits m0 := by
    rw [SyncRegs.ModeFrom, same]
    exact origin.imp id fun before => before.mono forward.le
  cases front : bits.drop r.i using bits_cases with
  | empty => rw [syncRound_at_end cb ph front] at h; cases h
  | one rest =>
    rw [syncRound_at_one cb ph front] at h
    cases h
    exact of_same_mode rfl
  | short rest few => rw [syncRound_at_incomplete cb ph front few] at h; cases h
  | falseStart d rest =>
    rw [syncRound_at_falseStart cb ph front, SyncRegs.attempt_falseStart] at h
    cases h
    exact of_same_mode rfl
  | frame c rest =>
    rw [syncRound_at_frame cb ph front, SyncRegs.attempt_frame _ _ _ _ (Nat.le_add_left 1 _)] at h
    cases h
    obtain ⟨target, found, run⟩ | ⟨ch, no_switch, -⟩ | ⟨no_switch, -⟩ := execCode_cases cb ph c r.m
    · refine .inr ⟨r.i, c, onesRun rest + 1, (Nat.add_assoc _ _ _).ge, ?_, ?_⟩
      · rw [front, decodeItem_frame]
      · rw [found, run]
    · exact of_same_mode (execCode_mode_of_no_switch ph r.m no_switch)
    · exact of_same_mode (execCode_mode_of_no_switch ph r.m no_switch)

theorem syncRounds_modeFrom {cb : Codebook} (ph : Char) {bits : List Bit} {m0 : Mode} (fuel : Nat) {r : SyncRegs}
    (origin : r.ModeFrom cb bits m0) : (syncRounds cb ph bits fuel r).ModeFrom cb bits m0 := by
  induction fuel generalizing r with
  | zero => exact origin
  | succ fuel ih =>
    cases round : syncRound cb ph bits r with
    | none => rwa [syncRounds_of_end _ round]
    | some r' =>
      rw [syncRounds_of_round _ round]
      exact ih (syncRound_modeFrom origin round)

theorem syncBits_mode (cb : Codebook) (ph : Char) (bits : List Bit) (m0 : Mode) :
    (syncBits cb ph bits m0).mode = m0 ∨
      SwitchFrameWithin cb bits (syncBits cb ph bits m0).consumed (syncBits cb ph bits m0).mode :=
  syncRounds_modeFrom ph bits.length (r := SyncRegs.start m0) (.inl rfl)

/-- Settles O26: every round keeps the origin of the mode. -/
theorem syncModeComesFromASwitchFrame : Obligations.SyncModeComesFromASwitchFrame :=
  ⟨syncBits_mode, fun _ ph _ m no_switch => execCode_mode_of_no_switch ph m no_switch⟩

end Sys2Proof.Machine
end

section
/-! `Sync` by its equations (R103 to R110): an evaluation over the rest of the bits is the evaluation over all of them,
started at its index. -/

namespace Sys2Proof.Machine

/-- The registers `r'` of an evaluation over some bits are `k` bits and the text `t` ahead of the registers `r` of an
evaluation over the bits from index `k` on. `data`, `j` and `stop` are no part of a result. -/
structure SyncRegs.Ahead (k : Nat) (t : Text) (r r' : SyncRegs) : Prop where
  index : r'.i = k + r.i
  text : r'.out = t ++ r.out
  mode : r'.m = r.m

section
variable (cb : Codebook) (ph : Char) {bits : List Bit} {k : Nat} {t : Text} {r r' : SyncRegs}

theorem SyncRegs.Ahead.t1 (h : r.Ahead k t r') : r.t1.Ahead k t r'.t1 :=
  ⟨by simp [SyncRegs.t1, h.index, Nat.add_assoc], h.text, h.mode⟩

theorem SyncRegs.Ahead.attempt (h : r.Ahead k t r') (c : Code) (n : Nat) :
    (r.attempt cb ph c n).Ahead k t (r'.attempt cb ph c n) := by
  obtain ⟨index, text, mode⟩ := h
  rcases Nat.eq_zero_or_pos n with rfl | some_stop
  · rw [SyncRegs.attempt_falseStart, SyncRegs.attempt_falseStart]
    exact ⟨by simp [index, Nat.add_assoc], text, mode⟩
  · rw [SyncRegs.attempt_frame _ _ _ _ some_stop, SyncRegs.attempt_frame _ _ _ _ some_stop]
    exact ⟨by simp [index, Nat.add_assoc], by simp [text, mode], by simp [mode]⟩

/-- Two evaluations, one ahead of the other, meet the same item: they go on alike or end together. -/
theorem syncRound_ahead (h : r.Ahead k t r') :
    (syncRound cb ph (bits.drop k) r = none ∧ syncRound cb ph bits r' = none) ∨
    ∃ q q', syncRound cb ph (bits.drop k) r = some q ∧ syncRound cb ph bits r' = some q' ∧ q.Ahead k t q' := by
  have same_front : bits.drop r'.i = (bits.drop k).drop r.i := by rw [h.index, List.drop_drop]
  cases front : (bits.drop k).drop r.i using bits_cases with
  | empty => exact .inl ⟨syncRound_at_end cb ph front, syncRound_at_end cb ph (same_front.trans front)⟩
  | one rest =>
    exact .inr ⟨_, _, syncRound_at_one cb ph front, syncRound_at_one cb ph (same_front.trans front), h.t1⟩
  | short rest few =>
    exact .inl ⟨syncRound_at_incomplete cb ph front few, syncRound_at_incomplete cb ph (same_front.trans front) few⟩
  | falseStart d rest =>
    exact .inr ⟨_, _, syncRound_at_falseStart cb ph front, syncRound_at_falseStart cb ph (same_front.trans front),
      h.attempt cb ph d 0⟩
  | frame c rest =>
    exact .inr ⟨_, _, syncRound_at_frame cb ph front, syncRound_at_frame cb ph (same_front.trans front),
      h.attempt cb ph c _⟩

theorem syncRounds_ahead (fuel : Nat) (h : r.Ahead k t r') :
    (syncRounds cb ph (bits.drop k) fuel r).Ahead k t (syncRounds cb ph bits fuel r') := by
  induction fuel generalizing r r' with
  | zero => exact h
  | succ fuel ih =>
    obtain ⟨ends, ends'⟩ | ⟨q, q', round, round', ahead⟩ := syncRound_ahead cb ph h
    · rwa [syncRounds_of_end _ ends, syncRounds_of_end _ ends']
    · rw [syncRounds_of_round _ round, syncRounds_of_round _ round']
      exact ih ahead

theorem syncRounds_add (a b : Nat) :
    syncRounds cb ph bits (a + b) r = syncRounds cb ph bits b (syncRounds cb ph bits a r) := by
  induction a generalizing r with
  | zero => rw [Nat.zero_add]; rfl
  | succ a ih =>
    rw [Nat.succ_add]
    cases round : syncRound cb ph bits r with
    | none => rw [syncRounds_of_end _ round, syncRounds_of_end _ round, syncRounds_of_end _ round]
    | some q => rw [syncRounds_of_round _ round, syncRounds_of_round _ round, ih]

/-- More rounds than bits are left change nothing (R118). -/
theorem syncRounds_of_enough {fuel fuel' : Nat} (enough : bits.length ≤ r.i + fuel) (more : fuel ≤ fuel') :
    syncRounds cb ph bits fuel' r = syncRounds cb ph bits fuel r := by
  obtain ⟨extra, rfl⟩ := Nat.exists_eq_add_of_le more
  rw [syncRounds_add, syncRounds_of_end _ (syncRounds_ends cb ph bits fuel r enough)]

end

/-- The result of an evaluation that has already consumed `k` bits and emitted `t`. -/
def SyncResult.after (k : Nat) (t : Text) (q : SyncResult) : SyncResult := ⟨t ++ q.text, k + q.consumed, q.mode⟩

@[simp] theorem SyncResult.after_text (k : Nat) (t : Text) (q : SyncResult) : (q.after k t).text = t ++ q.text := rfl
@[simp] theorem SyncResult.after_consumed (k : Nat) (t : Text) (q : SyncResult) :
    (q.after k t).consumed = k + q.consumed := rfl
@[simp] theorem SyncResult.after_mode (k : Nat) (t : Text) (q : SyncResult) : (q.after k t).mode = q.mode := rfl

theorem SyncResult.after_nil (k : Nat) (q : SyncResult) : q.after k [] = ⟨q.text, q.consumed + k, q.mode⟩ := by
  rw [SyncResult.after, Nat.add_comm]
  rfl

theorem SyncResult.after_after (k k' : Nat) (t t' : Text) (q : SyncResult) :
    (q.after k' t').after k t = q.after (k + k') (t ++ t') := by
  simp [SyncResult.after, Nat.add_assoc]

theorem SyncRegs.Ahead.result {k : Nat} {t : Text} {r r' : SyncRegs} (h : r.Ahead k t r') :
    r'.result = r.result.after k t := by
  simp [SyncRegs.result, SyncResult.after, h.index, h.text, h.mode]

section
variable (cb : Codebook) (ph : Char) (m : Mode)

/-- After its first round `Sync` goes on as `Sync` of the bits from the index on, in the mode reached. -/
theorem syncBits_of_round {bits : List Bit} {r : SyncRegs} (round : syncRound cb ph bits (SyncRegs.start m) = some r) :
    syncBits cb ph bits m = (syncBits cb ph (bits.drop r.i) r.m).after r.i r.out := by
  have forward : 0 < r.i := syncRound_advances round
  have inside := (syncRound_inside round).1
  obtain ⟨n, size⟩ : ∃ n, bits.length = n + 1 := ⟨bits.length - 1, by omega⟩
  have start : (SyncRegs.start r.m).Ahead r.i r.out r := ⟨rfl, (List.append_nil _).symm, rfl⟩
  have enough : (bits.drop r.i).length ≤ n := by rw [List.length_drop]; omega
  calc syncBits cb ph bits m
      = (syncRounds cb ph bits n r).result := by rw [← syncRounds_of_round n round, ← size]; rfl
    _ = (syncRounds cb ph (bits.drop r.i) n (SyncRegs.start r.m)).result.after r.i r.out :=
        (syncRounds_ahead cb ph n start).result
    _ = (syncBits cb ph (bits.drop r.i) r.m).after r.i r.out := by
        rw [syncRounds_of_enough cb ph (Nat.le_add_left _ _) enough]
        rfl

theorem syncBits_of_end {bits : List Bit} (ends : syncRound cb ph bits (SyncRegs.start m) = none) :
    syncBits cb ph bits m = ⟨[], 0, m⟩ := by
  rw [syncBits, syncRounds_of_end _ ends]
  rfl

theorem syncBits_nil : syncBits cb ph [] m = ⟨[], 0, m⟩ := rfl

theorem syncBits_one (rest : List Bit) : syncBits cb ph (true :: rest) m = (syncBits cb ph rest m).after 1 [] :=
  syncBits_of_round cb ph m (syncRound_at_one cb ph (r := SyncRegs.start m) rfl)

theorem syncBits_incomplete {rest : List Bit} (few : rest.length < 6) : syncBits cb ph (false :: rest) m = ⟨[], 0, m⟩ :=
  syncBits_of_end cb ph m (syncRound_at_incomplete cb ph (r := SyncRegs.start m) rfl few)

theorem syncBits_falseStart (d : Code) (rest : List Bit) :
    syncBits cb ph (false :: (d.toList ++ false :: rest)) m =
      (syncBits cb ph (d.toList ++ false :: rest) m).after 1 [] := by
  have round := syncRound_at_falseStart cb ph (bits := false :: (d.toList ++ false :: rest)) (r := SyncRegs.start m) rfl
  rw [SyncRegs.attempt_falseStart] at round
  exact syncBits_of_round cb ph m round

theorem syncBits_frame (c : Code) (rest : List Bit) :
    syncBits cb ph (false :: (c.toList ++ true :: rest)) m =
      (syncBits cb ph (rest.drop (onesRun rest)) (execCode cb ph c m).2).after (7 + onesRun rest)
        (execCode cb ph c m).1.toList := by
  have round := syncRound_at_frame cb ph (bits := false :: (c.toList ++ true :: rest)) (r := SyncRegs.start m) rfl
  rw [SyncRegs.attempt_frame _ _ _ _ (Nat.le_add_left 1 _)] at round
  have index : (SyncRegs.start m).i + 6 + (onesRun rest + 1) = 7 + onesRun rest := by simp only [SyncRegs.start]; omega
  rw [syncBits_of_round cb ph m round]
  dsimp only
  rw [index, ← List.drop_drop]
  rfl

/-- The 1-bits at the front of what `Sync` is given are passed over (R103). -/
theorem syncBits_replicate_append (n : Nat) (rest : List Bit) :
    syncBits cb ph (List.replicate n true ++ rest) m = (syncBits cb ph rest m).after n [] := by
  induction n with
  | zero => simp [SyncResult.after]
  | succ n ih =>
    rw [List.replicate_succ, List.cons_append, syncBits_one, ih, SyncResult.after_after, Nat.add_comm]
    rfl

/-- A frame counted to its first stop bit: the other stop bits are idle bits of what follows (R113). -/
theorem syncBits_frame_first_stop (c : Code) (rest : List Bit) :
    syncBits cb ph (false :: (c.toList ++ true :: rest)) m =
      (syncBits cb ph rest (execCode cb ph c m).2).after 7 (execCode cb ph c m).1.toList := by
  conv_rhs => rw [← replicate_onesRun_append_drop rest]
  rw [syncBits_replicate_append, SyncResult.after_after, List.append_nil, syncBits_frame]

/-- A whole frame and then anything that does not lengthen its stop run. -/
theorem syncBits_encS_append (c : Code) {n : Nat} (some_stop : 1 ≤ n) (rest : List Bit) :
    syncBits cb ph (encS c n ++ rest) m =
      (syncBits cb ph rest (execCode cb ph c m).2).after (6 + n) (execCode cb ph c m).1.toList := by
  obtain ⟨k, rfl⟩ := Nat.exists_eq_add_of_le' some_stop
  have bits : encS c (k + 1) ++ rest = false :: (c.toList ++ true :: (List.replicate k true ++ rest)) := by
    simp [encS, List.replicate_succ]
  rw [bits, syncBits_frame_first_stop, syncBits_replicate_append, SyncResult.after_after, List.append_nil]
  congr 1
  omega

end

/-- Settles O20, by the round at each way the bits can begin. -/
theorem syncFollowsItsTransitions : Obligations.SyncFollowsItsTransitions := by
  intro cb ph m
  refine ⟨syncBits_nil cb ph m, fun b => ?_, fun b few => syncBits_incomplete cb ph m few, fun c b => ?_, fun c b => ?_⟩
  · rw [syncBits_one, SyncResult.after_nil]
  · rw [syncBits_falseStart, SyncResult.after_nil]
  · exact syncBits_frame cb ph m c b

theorem syncBits_consumed_le (cb : Codebook) (ph : Char) (bits : List Bit) (m0 : Mode) :
    (syncBits cb ph bits m0).consumed ≤ bits.length :=
  syncRounds_inside cb ph bits bits.length (SyncRegs.start m0) (Nat.zero_le _)

/-- Settles O21: where the loop ends, and that `Sync` stops at once on what is left there. -/
theorem syncLeavesOnlyAnIncompleteFrame : Obligations.SyncLeavesOnlyAnIncompleteFrame := by
  intro cb ph bits m0
  refine ⟨syncBits_consumed_le cb ph bits m0, syncBits_rest cb ph bits m0, fun m => ?_⟩
  obtain empty | ⟨zero, few⟩ := syncBits_rest cb ph bits m0
  · rw [empty, syncBits_nil]
  · obtain ⟨rest, tail⟩ := List.head?_eq_some_iff.mp zero
    rw [tail] at few ⊢
    exact syncBits_incomplete cb ph m (Nat.lt_of_succ_le few)

/-! ### Two parts (R114) -/

theorem syncBits_append (cb : Codebook) (ph : Char) (b1 b2 : List Bit) (m : Mode) :
    syncBits cb ph (b1 ++ b2) m =
      (syncBits cb ph (b1.drop (syncBits cb ph b1 m).consumed ++ b2) (syncBits cb ph b1 m).mode).after
        (syncBits cb ph b1 m).consumed (syncBits cb ph b1 m).text := by
  induction b1 using bits_induction generalizing m with
  | empty => simp [syncBits_nil, SyncResult.after]
  | one rest ih =>
    rw [List.cons_append, syncBits_one, ih, syncBits_one, SyncResult.after_after, SyncResult.after_consumed,
      Nat.add_comm 1, List.drop_succ_cons]
    simp [Nat.add_comm]
  | short rest few => simp [syncBits_incomplete cb ph m few, SyncResult.after]
  | falseStart d rest ih =>
    have ih := ih m
    rw [List.append_assoc, List.cons_append] at ih
    rw [List.cons_append, List.append_assoc, List.cons_append, syncBits_falseStart, ih, syncBits_falseStart,
      SyncResult.after_after, SyncResult.after_consumed, Nat.add_comm 1, List.drop_succ_cons]
    simp [Nat.add_comm]
  | frame c rest ih =>
    have tail (n : Nat) : (false :: (c.toList ++ true :: rest)).drop (7 + n) = rest.drop n := by
      rw [← List.drop_drop]; rfl
    rw [List.cons_append, List.append_assoc, List.cons_append, syncBits_frame_first_stop, ih,
      syncBits_frame_first_stop, SyncResult.after_after, SyncResult.after_consumed, tail]
    rfl

/-- Settles O22, by induction along the items of the first part. -/
theorem syncIsChunkInvariant : Obligations.SyncIsChunkInvariant := fun cb ph b1 b2 m0 => syncBits_append cb ph b1 b2 m0

/-! ### One stop bit at a time (R113) -/

/-- What an evaluation will have reached: what it has, and then `Sync` of the bits from its index on. -/
def SyncRegs.expected (cb : Codebook) (ph : Char) (bits : List Bit) (r : SyncRegs) : SyncResult :=
  (syncBits cb ph (bits.drop r.i) r.m).after r.i r.out

section
variable (cb : Codebook) (ph : Char) {bits : List Bit} {r r' : SyncRegs}

theorem expected_of_round (round : syncRound cb ph bits r = some r') :
    r'.expected cb ph bits = r.expected cb ph bits := by
  have start : (SyncRegs.start r.m).Ahead r.i r.out r := ⟨rfl, (List.append_nil _).symm, rfl⟩
  obtain ⟨-, ends⟩ | ⟨q, q', first, round', ahead⟩ := syncRound_ahead cb ph (bits := bits) start
  · exact absurd (round.symm.trans ends) nofun
  · obtain rfl := Option.some.inj (round'.symm.trans round)
    rw [SyncRegs.expected, SyncRegs.expected, syncBits_of_round cb ph r.m first, SyncResult.after_after, ahead.index,
      ahead.text, ahead.mode, List.drop_drop]

theorem expected_of_end (ends : syncRound cb ph bits r = none) : r.expected cb ph bits = r.result := by
  have start : (SyncRegs.start r.m).Ahead r.i r.out r := ⟨rfl, (List.append_nil _).symm, rfl⟩
  obtain ⟨first, -⟩ | ⟨q, q', -, round, -⟩ := syncRound_ahead cb ph (bits := bits) start
  · rw [SyncRegs.expected, syncBits_of_end cb ph r.m first]
    simp [SyncRegs.result, SyncResult.after]
  · exact absurd (ends.symm.trans round) nofun

/-- A round of the variant is a round of `Sync`, but at a whole frame the index then stands after the first stop bit. -/
theorem shortRound_eq (bits : List Bit) (r : SyncRegs) : shortRound cb ph bits r =
    if bitAt bits r.i = false ∧ bitAt bits (r.i + 6) = true then
      (syncRound cb ph bits r).map fun r' => { r' with i := r.i + 7 }
    else syncRound cb ph bits r := by
  have no_stop (h : bitAt bits (r.i + 6) = false) : onesRun (bits.drop (r.i + 6)) = 0 := by
    refine onesRun_of_head?_ne fun one => ?_
    rw [← Nat.add_zero (r.i + 6), ← bitAt_drop, bitAt, List.getD_eq_getElem?_getD, ← List.head?_eq_getElem?, one] at h
    exact Bool.noConfusion h
  simp only [shortRound, syncRound]
  cases start : bitAt bits r.i <;> cases stop : bitAt bits (r.i + 6) <;> simp [no_stop, stop]
  split_ifs <;> rfl

/-- The first stop bit consumed or all of them: what is expected is the same. -/
theorem expected_at_first_stop {c : Code} {rest : List Bit} (h : bits.drop r.i = false :: (c.toList ++ true :: rest)) :
    ({ r.attempt cb ph c (onesRun rest + 1) with i := r.i + 7 } : SyncRegs).expected cb ph bits =
      r.expected cb ph bits := by
  have tail : bits.drop (r.i + 7) = rest := by rw [← List.drop_drop, h]; rfl
  rw [SyncRegs.attempt_frame _ _ _ _ (Nat.le_add_left 1 _), SyncRegs.expected, SyncRegs.expected, h, tail,
    syncBits_frame_first_stop, SyncResult.after_after]

theorem shortRound_expected (h : shortRound cb ph bits r = some r') :
    r'.expected cb ph bits = r.expected cb ph bits := by
  rw [shortRound_eq] at h
  split at h
  · rename_i frame
    cases front : bits.drop r.i using bits_cases with
    | empty => rw [syncRound_at_end cb ph front] at h; cases h
    | one rest =>
      rw [← Nat.add_zero r.i, ← bitAt_drop, front] at frame
      exact Bool.noConfusion frame.1
    | short rest few => rw [syncRound_at_incomplete cb ph front few] at h; cases h
    | falseStart d rest =>
      rw [← bitAt_drop, front] at frame
      exact Bool.noConfusion frame.2
    | frame c rest =>
      rw [syncRound_at_frame cb ph front] at h
      cases h
      exact expected_at_first_stop cb ph front
  · exact expected_of_round cb ph h

theorem syncRound_of_shortRound_none (h : shortRound cb ph bits r = none) : syncRound cb ph bits r = none := by
  rw [shortRound_eq] at h
  split at h
  · exact Option.map_eq_none_iff.mp h
  · exact h

theorem shortRound_advances (h : shortRound cb ph bits r = some r') : r.i < r'.i := by
  rw [shortRound_eq] at h
  split at h
  · obtain ⟨q, -, rfl⟩ := Option.map_eq_some_iff.mp h
    exact Nat.lt_add_of_pos_right (Nat.zero_lt_succ _)
  · exact syncRound_advances h

/-- The variant's loop, with enough rounds, reaches what was expected. -/
theorem shortRounds_result (fuel : Nat) (r : SyncRegs) (enough : bits.length ≤ r.i + fuel) :
    (shortRounds cb ph bits fuel r).result = r.expected cb ph bits := by
  induction fuel generalizing r with
  | zero => exact (expected_of_end cb ph (syncRound_of_no_bits cb ph enough)).symm
  | succ fuel ih =>
    cases round : shortRound cb ph bits r with
    | none =>
      simp only [shortRounds, round]
      exact (expected_of_end cb ph (syncRound_of_shortRound_none cb ph round)).symm
    | some r' =>
      have forward := shortRound_advances cb ph round
      simp only [shortRounds, round]
      rw [ih r' (by omega), shortRound_expected cb ph round]

end

/-- Settles O23: both loops reach what is expected at the start, and a round of either keeps it. -/
theorem consumingOneStopBitGivesTheSameResult : Obligations.ConsumingOneStopBitGivesTheSameResult := by
  intro cb ph bits m0
  rw [syncShort, shortRounds_result cb ph _ _ (Nat.le_add_left _ _)]
  simp [SyncRegs.expected, SyncRegs.start, SyncResult.after]

end Sys2Proof.Machine
end

section
/-! Encoded text and a spurious 0 (R115, R116). -/

namespace Sys2Proof.Machine

theorem lookup_of_mem {α : Type} {tbl : CodeMap α} {c : Code} {v : α} (unique : (tbl.map Prod.fst).Nodup)
    (h : (c, v) ∈ tbl) : tbl.lookup c = some v := by
  induction tbl with
  | nil => exact absurd h List.not_mem_nil
  | cons e tbl ih =>
    rw [List.map_cons, List.nodup_cons] at unique
    obtain ⟨fresh, unique⟩ := unique
    rcases List.mem_cons.mp h with rfl | later
    · simp
    · have other : (c == e.1) = false := by
        refine beq_eq_false_iff_ne.mpr fun same => fresh ?_
        exact same ▸ List.mem_map_of_mem later
      rw [List.lookup, other]
      exact ih unique later

/-- In a table with unique keys the key of a character leads back to it (R78 (c)). -/
theorem lookup_keyOf {tbl : CodeMap Char} {ch : Char} {c : Code} (unique : (tbl.map Prod.fst).Nodup)
    (key : keyOf tbl ch = some c) : tbl.lookup c = some ch := by
  obtain ⟨e, found, rfl⟩ := Option.map_eq_some_iff.mp key
  have is_ch : e.2 = ch := by simpa using List.find?_some found
  exact lookup_of_mem unique (is_ch ▸ List.mem_of_find?_eq_some found)

theorem execCode_of_literal {cb : Codebook} (ph : Char) {c : Code} {m : Mode} {ch : Char}
    (no_switch : cb.switch.lookup c = none) (found : (cb.table m).lookup c = some ch) :
    execCode cb ph c m = (some ch, m) := by
  simp only [execCode, no_switch, found]

/-- The encoder's answer on a text with a first character. -/
theorem encStr_cons {tbl : CodeMap Char} {ch : Char} {t : Text} {bits : List Bit}
    (h : encStr tbl (ch :: t) = some bits) :
    ∃ c rest, keyOf tbl ch = some c ∧ encStr tbl t = some rest ∧ bits = enc c ++ rest := by
  rw [encStr] at h
  split at h
  · rename_i c rest key others
    exact ⟨c, rest, key, others, (Option.some.inj h).symm⟩
  · cases h

/-- Settles O24, by induction on the text: the frame of each character is executed to it and keeps the mode. -/
theorem encodedTextRoundTrips : Obligations.EncodedTextRoundTrips := by
  intro cb ph m t bits unique no_switch encoded
  induction t generalizing bits with
  | nil =>
    obtain rfl := Option.some.inj encoded
    rfl
  | cons ch t ih =>
    obtain ⟨c, rest, key, others, rfl⟩ := encStr_cons encoded
    obtain ⟨no_switch_ch, no_switch_t⟩ := List.forall_mem_cons.mp no_switch
    have code := execCode_of_literal ph (no_switch_ch c key) (lookup_keyOf unique key)
    rw [enc, syncBits_encS_append cb ph m c one_le_two, code, ih rest no_switch_t others]
    simp [SyncResult.after, Nat.mul_succ, Nat.add_comm]

/-- Settles O25: with d5 = 0 the spurious 0 is a false start; with d5 = 1 it is a start bit, d5 being the stop bit that
lengthens the frame's stop run by one. -/
theorem spuriousZeroIsHarmlessOnlyBeforeFifthBitZero : Obligations.SpuriousZeroIsHarmlessOnlyBeforeFifthBitZero := by
  intro cb ph m ⟨d1, d2, d3, d4, d5⟩ n rest some_stop
  refine ⟨fun last_zero => ?_, fun last_one _ => ?_⟩
  · obtain rfl : d5 = false := last_zero
    exact (syncBits_falseStart cb ph m ⟨false, d1, d2, d3, d4⟩ (List.replicate n true ++ rest)).trans
      (SyncResult.after_nil 1 _)
  · obtain rfl : d5 = true := last_one
    have shifted := syncBits_frame_first_stop cb ph m ⟨false, d1, d2, d3, d4⟩ (List.replicate n true ++ rest)
    rw [syncBits_replicate_append, SyncResult.after_after, List.append_nil] at shifted
    exact shifted

end Sys2Proof.Machine
end

section
/-! What every instruction and every step does: it answers a next state and keeps the Configuration. -/

namespace Sys2Proof.Machine

@[simp] theorem drain_cfg (s : State) : (drain s).cfg = s.cfg := by rw [drain_frame]; rfl

theorem whenRunning_cfg {s : State} {f : State → State} (h : (f s).cfg = s.cfg) : (whenRunning s f).cfg = s.cfg := by
  obtain ⟨-, accepted⟩ | ⟨-, refused⟩ := whenRunning_cases s f
  · rw [accepted, h]
  · rw [refused]

theorem pollEffect_cfg (s : State) : (pollEffect s).cfg = s.cfg := by
  obtain ⟨-, short⟩ | ⟨-, full⟩ := pollEffect_cases s
  · rw [short]; rfl
  · rw [full]; rfl

/-- BATCH hands something back that the Configuration and the signal alone decide, and changes nothing else (R170). -/
theorem exec_batch_responds (raw : Signal) (c : Configuration) :
    ∃ x, ∀ s : State, s.cfg = c → exec (.batch raw) s = .next (s.respond x) := by
  obtain ⟨-, answer⟩ | ⟨-, -, answer⟩ | ⟨-, -, answer⟩ := preprocess_cases raw
  · exact ⟨.error .emptySignal, fun s _ => by simp only [exec, execBatch, answer, State.raise_eq]⟩
  · exact ⟨.error .silentSignal, fun s _ => by simp only [exec, execBatch, answer, State.raise_eq]⟩
  · refine ⟨.decoded (syncBits c.params.codebook c.params.placeholder (demodAll c.params
      ((firstChannel raw).map fun v => v.value / maxMagnitude (firstChannel raw))) .lat).text, fun s same => ?_⟩
    subst same
    simp only [exec, execBatch, answer, State.syncWith]

theorem exec_next_cfg (i : Instr) (s : State) : ∃ t, exec i s = .next t ∧ t.cfg = s.cfg := by
  cases i using Instr.cases_by_kind with
  | frame c n => exact ⟨_, exec_frameOf c n s, rfl⟩
  | sample x => exact ⟨_, rfl, whenRunning_cfg (by simp)⟩
  | push chunk => exact ⟨_, rfl, whenRunning_cfg (by simp [truncateSb_drain])⟩
  | poll => exact ⟨_, rfl, whenRunning_cfg (pollEffect_cfg s)⟩
  | stop => exact ⟨_, rfl, whenRunning_cfg (pollEffect_cfg s)⟩
  | abort => exact ⟨_, rfl, whenRunning_cfg rfl⟩
  | batch raw =>
    obtain ⟨x, answer⟩ := exec_batch_responds raw s.cfg
    exact ⟨_, answer s rfl, rfl⟩
  | demod => exact ⟨_, rfl, demodStep_cfg s⟩
  | _ => exact ⟨_, rfl, rfl⟩

/-! ### A step outside a watched POLL -/

section
variable {s : State} {rest : List Request} (atomic : s.evaluating = false)
include atomic

theorem step_of_no_request (asked : s.pending = []) : step s = .next s := by
  rw [step, atomic, asked]; rfl

theorem step_of_op {o : PortOp} (asked : s.pending = .op o :: rest) :
    step s = exec (portInstr o) (s.withPending rest) := by
  rw [step, atomic, asked]; rfl

theorem step_of_bits {bs : List Bit} (asked : s.pending = .bits bs :: rest) :
    step s = .next (benchBits bs (s.withPending rest)) := by
  rw [step, atomic, asked]; rfl

theorem step_of_pollByItems (asked : s.pending = .pollByItems :: rest) :
    step s = .next (openPoll (s.withPending rest)) := by
  rw [step, atomic, asked]; rfl

end

theorem openPoll_of_stopped {s : State} (stopped : s.run = .stopped) : openPoll s = s :=
  whenRunning_of_stopped _ stopped

theorem openPoll_of_short {s : State} (running : s.run = .running) (short : s.bb.length < 7) :
    openPoll s = s.respond (.fragment []) :=
  (whenRunning_of_running _ running).trans (if_pos short)

theorem openPoll_of_full {s : State} (running : s.run = .running) (full : 7 ≤ s.bb.length) :
    openPoll s = s.openEvaluation :=
  (whenRunning_of_running _ running).trans (if_neg (Nat.not_lt.mpr full))

/-- Opening a watched POLL is refused, or answered at once below the gate, or opens the evaluation (R166). -/
theorem openPoll_cases (s : State) :
    (s.run = .stopped ∧ openPoll s = s) ∨
    (s.run = .running ∧ s.bb.length < 7 ∧ openPoll s = s.respond (.fragment [])) ∨
    (s.run = .running ∧ 7 ≤ s.bb.length ∧ openPoll s = s.openEvaluation) := by
  cases run : s.run with
  | stopped => exact .inl ⟨rfl, openPoll_of_stopped run⟩
  | running =>
    rcases Nat.lt_or_ge s.bb.length 7 with short | full
    · exact .inr (.inl ⟨rfl, short, openPoll_of_short run short⟩)
    · exact .inr (.inr ⟨rfl, full, openPoll_of_full run full⟩)

/-- Settles O2, by the four forms of the list of requests. -/
theorem stepServesNextRequest : Obligations.StepServesNextRequest := by
  intro s atomic
  refine ⟨step_of_no_request atomic, fun o rest asked => step_of_op atomic asked, fun bs rest asked => ?_,
    fun rest asked => ?_⟩
  · rw [step_of_bits atomic asked]
    exact ⟨fun running => congrArg Host.Outcome.next (whenRunning_of_running _ running),
      fun stopped => congrArg Host.Outcome.next (whenRunning_of_stopped _ stopped)⟩
  · rw [step_of_pollByItems atomic asked]
    exact ⟨fun stopped => congrArg Host.Outcome.next (openPoll_of_stopped stopped),
      fun running short => congrArg Host.Outcome.next (openPoll_of_short (s := s.withPending rest) running short),
      fun running full => congrArg Host.Outcome.next (openPoll_of_full (s := s.withPending rest) running full)⟩

/-! ### A step of a watched POLL -/

theorem step_of_item {s : State} {i : Instr} (watched : s.evaluating = true) (item : fetchItem s = .ok i) :
    step s = exec i s := by
  simp only [step, watched, item, if_true]

theorem step_of_no_item {s : State} {e : DecodeReject} (watched : s.evaluating = true)
    (none_left : fetchItem s = .error e) : step s = .next (closePoll s) := by
  simp only [step, watched, none_left, if_true]

/-- Settles O1, by the decoder's two answers. -/
theorem stepRunsFetchedItemOrEndsPoll : Obligations.StepRunsFetchedItemOrEndsPoll :=
  fun _ watched => ⟨fun _ item => step_of_item watched item, fun _ none_left => step_of_no_item watched none_left⟩

/-- The synchroniser's next round over BB, with the block's own Codebook and PLACEHOLDER. -/
def State.nextRound (s : State) : Option SyncRegs :=
  syncRound s.cfg.params.codebook s.cfg.params.placeholder s.bb s.sync

/-- The item at the index and the synchroniser's round agree (R59 against R103 to R108): there is no item exactly where
the loop ends, and the item's meaning is the round. -/
theorem fetchItem_cases (s : State) :
    (∃ e, fetchItem s = .error e ∧ s.nextRound = none) ∨
    ∃ i r, fetchItem s = .ok i ∧ s.nextRound = some r ∧ exec i s = .next (s.withSync r) ∧
      r.i = s.sync.i + consumedBits i ∧ ∃ e : Option Char, r.out = s.sync.out ++ e.toList := by
  cases front : s.bb.drop s.sync.i using bits_cases with
  | empty => exact .inl ⟨_, congrArg decodeItem front, syncRound_at_end _ _ front⟩
  | one rest =>
    exact .inr ⟨.idle, _, congrArg decodeItem front, syncRound_at_one _ _ front, rfl, rfl, none,
      (List.append_nil _).symm⟩
  | short rest few =>
    exact .inl ⟨_, (congrArg decodeItem front).trans (decodeItem_incomplete few), syncRound_at_incomplete _ _ front few⟩
  | falseStart d rest =>
    refine .inr ⟨.falseStart d, _, congrArg decodeItem front, syncRound_at_falseStart _ _ front, rfl, ?_, none, ?_⟩
    · rw [SyncRegs.attempt_falseStart]; rfl
    · rw [SyncRegs.attempt_falseStart]; exact (List.append_nil _).symm
  | frame c rest =>
    refine .inr ⟨Instr.frameOf c (onesRun rest + 1), _, congrArg decodeItem front, syncRound_at_frame _ _ front,
      exec_frameOf c _ s, ?_,
      (execCode s.cfg.params.codebook s.cfg.params.placeholder c s.sync.m).1, ?_⟩
    · rw [SyncRegs.attempt_frame _ _ _ _ (Nat.le_add_left 1 _), Instr.frameOf_consumedBits]
      exact Nat.add_assoc _ _ _
    · rw [SyncRegs.attempt_frame _ _ _ _ (Nat.le_add_left 1 _)]

/-- A step of a watched POLL ends it, or is the synchroniser's next round. -/
theorem step_watched_cases {s : State} (watched : s.evaluating = true) :
    ((∃ e, fetchItem s = .error e) ∧ s.nextRound = none ∧ step s = .next (closePoll s)) ∨
    ∃ r, s.nextRound = some r ∧ step s = .next (s.withSync r) := by
  obtain ⟨e, none_left, ends⟩ | ⟨i, r, item, round, meaning, -⟩ := fetchItem_cases s
  · exact .inl ⟨⟨e, none_left⟩, ends, step_of_no_item watched none_left⟩
  · exact .inr ⟨r, round, (step_of_item watched item).trans meaning⟩

/-- Settles O27: the fetched item's meaning is the synchroniser's round. -/
theorem itemStepAdvancesByItsLength : Obligations.ItemStepAdvancesByItsLength := by
  intro s i watched fetched
  obtain ⟨e, none_left, -⟩ | ⟨i', r, item, round, meaning, index, text⟩ := fetchItem_cases s
  · exact absurd (fetched.symm.trans none_left) nofun
  · obtain rfl := Except.ok.inj (item.symm.trans fetched)
    obtain ⟨inside, seeking⟩ := syncRound_inside round
    exact ⟨r, (step_of_item watched item).trans meaning, index, inside, seeking, text⟩

/-! ### All steps -/

theorem step_next_cfg (s : State) : ∃ t, step s = .next t ∧ t.cfg = s.cfg := by
  cases watched : s.evaluating with
  | true =>
    obtain ⟨-, -, ends⟩ | ⟨r, -, goes_on⟩ := step_watched_cases watched
    · exact ⟨_, ends, rfl⟩
    · exact ⟨_, goes_on, rfl⟩
  | false =>
    match asked : s.pending with
    | [] => exact ⟨s, step_of_no_request watched asked, rfl⟩
    | .op o :: rest =>
      obtain ⟨t, answer, same⟩ := exec_next_cfg (portInstr o) (s.withPending rest)
      exact ⟨t, (step_of_op watched asked).trans answer, same⟩
    | .bits bs :: rest =>
      exact ⟨_, step_of_bits watched asked, whenRunning_cfg (s := s.withPending rest) rfl⟩
    | .pollByItems :: rest =>
      refine ⟨_, step_of_pollByItems watched asked, ?_⟩
      obtain ⟨-, same⟩ | ⟨-, -, same⟩ | ⟨-, -, same⟩ := openPoll_cases (s.withPending rest)
      all_goals rw [same]; rfl

/-- Settles O3. -/
theorem everyInstructionAndStepAnswersNext : Obligations.EveryInstructionAndStepAnswersNext :=
  ⟨fun i s => (exec_next_cfg i s).imp fun _ h => h.1, fun s => (step_next_cfg s).imp fun _ h => h.1⟩

/-- Settles O46: the one next state that is answered has the Configuration of the state before. -/
theorem configurationIsNeverWritten : Obligations.ConfigurationIsNeverWritten := by
  refine ⟨fun i s t answered => ?_, fun s t answered => ?_⟩
  · obtain ⟨t', answer, same⟩ := exec_next_cfg i s
    obtain rfl := Host.Outcome.next.inj (answer.symm.trans answered)
    exact same
  · obtain ⟨t', answer, same⟩ := step_next_cfg s
    obtain rfl := Host.Outcome.next.inj (answer.symm.trans answered)
    exact same

/-! ### The two grains of POLL (R11, R51) -/

theorem run_of_step {s t : State} (h : step s = .next t) (k : Nat) :
    Host.Core.run core (k + 1) s = Host.Core.run core k t := by
  have h : core.step s = .next t := h
  simp only [Host.Core.run, h]

/-- From any index a watched POLL comes to its end, with the registers that the synchroniser's loop gives. -/
theorem run_watched (fuel : Nat) (s : State) (watched : s.evaluating = true) (enough : s.bb.length ≤ s.sync.i + fuel) :
    ∃ k, Host.Core.run core k s =
      .next (closePoll (s.withSync (syncRounds s.cfg.params.codebook s.cfg.params.placeholder s.bb fuel s.sync))) := by
  induction fuel generalizing s with
  | zero =>
    obtain ⟨-, -, ends⟩ | ⟨r, round, -⟩ := step_watched_cases watched
    · exact ⟨1, run_of_step ends 0⟩
    · exact absurd ((syncRound_of_no_bits _ _ enough).symm.trans round) nofun
  | succ fuel ih =>
    obtain ⟨-, last, ends⟩ | ⟨r, round, goes_on⟩ := step_watched_cases watched
    · rw [syncRounds_of_end _ last]
      exact ⟨1, run_of_step ends 0⟩
    · have forward := syncRound_advances round
      obtain ⟨k, run⟩ := ih (s.withSync r) watched (by simp only [State.withSync_bb, State.withSync_sync]; omega)
      rw [syncRounds_of_round _ round]
      exact ⟨k + 1, (run_of_step goes_on k).trans run⟩

/-- Settles O28: the watched POLL runs the loop of `Sync` over BB and then delivers its result. -/
theorem watchedPollEqualsAtomicPoll : Obligations.WatchedPollEqualsAtomicPoll := by
  intro s running atomic resting full
  obtain ⟨k, run⟩ := run_watched s.bb.length s.openEvaluation rfl (Nat.le_add_left _ _)
  refine ⟨k, _, run, (exec_poll_of_full running full).trans (congrArg Host.Outcome.next ?_)⟩
  exact State.ext_fields _ _ rfl rfl rfl rfl rfl resting atomic rfl rfl

end Sys2Proof.Machine
end

section
/-! The bit-stream items one by one (R103 to R107, R119 to R158). -/

namespace Sys2Proof.Machine

/-- Settles O4: IDLE is T1, and the decoder reads it from a 1 alone. -/
theorem idleBitIsPassedOver : Obligations.IdleBitIsPassedOver := by
  refine ⟨fun s => rfl, fun s watched one => ?_, fun cb ph m => rfl⟩
  obtain ⟨rest, front⟩ := List.head?_eq_some_iff.mp (List.head?_drop.trans one)
  exact step_of_item watched (congrArg decodeItem front)

theorem exec_falseStart (d : Code) (s : State) : exec (.falseStart d) s = .next
    { s with sync := { s.sync with
        i := s.sync.i + 1, data := d, j := s.sync.i + 6, stop := 0, control := .seekStart } } :=
  congrArg (fun r => Host.Outcome.next (s.withSync r)) (SyncRegs.attempt_falseStart _ _ d s.sync)

/-- Settles O5: FALSESTART is T2, T3, T5. -/
theorem falseStartConsumesOneBit : Obligations.FalseStartConsumesOneBit := by
  refine ⟨exec_falseStart, fun d rest s watched front => ?_, fun cb ph m => rfl⟩
  exact (step_of_item watched (congrArg decodeItem front)).trans (exec_falseStart d s)

/-- A frame instruction, given as the frame of its code, executes that code (T2, T3, T4). -/
theorem exec_frame {i : Instr} {c : Code} {n : Nat} (own_code : Instr.frameOf c n = i) (some_stop : 1 ≤ n) (s : State) :
    exec i s = .next (s.afterFrame c n (execCode s.cfg.params.codebook s.cfg.params.placeholder c s.sync.m)) := by
  rw [← own_code, exec_frameOf, frameEffect, SyncRegs.attempt_frame _ _ _ _ some_stop]
  rfl

/-- Settles O7: each of the 32 constructors is the frame of its own code. -/
theorem everyFrameInstructionExecutesItsOwnCode : Obligations.EveryFrameInstructionExecutesItsOwnCode := by
  intro n s some_stop
  dsimp only
  and_intros <;> exact exec_frame (by rfl) some_stop s

theorem execCode_of_switch {cb : Codebook} (ph : Char) {c : Code} (m : Mode) {target : Mode}
    (found : cb.switch.lookup c = some target) : execCode cb ph c m = (none, target) := by
  simp only [execCode, found]

theorem execCode_of_unmapped {cb : Codebook} (ph : Char) {c : Code} {m : Mode} (no_switch : cb.switch.lookup c = none)
    (not_found : (cb.table m).lookup c = none) : execCode cb ph c m = (some ph, m) := by
  simp only [execCode, no_switch, not_found]

/-- Settles O6, by the three ways of `Exec`. -/
theorem frameRunsItsCodeAndConsumesItsStopRun : Obligations.FrameRunsItsCodeAndConsumesItsStopRun := by
  intro c n rest s watched some_stop ends front
  have item : fetchItem s = .ok (Instr.frameOf c n) :=
    (congrArg decodeItem front).trans (decodeItem_encS_append c some_stop ends)
  have frame := (step_of_item watched item).trans (exec_frame rfl some_stop s)
  refine ⟨fun target found => ?_, fun ch no_switch found => ?_, fun no_switch not_found => ?_⟩
  · rw [frame, execCode_of_switch _ _ found]
    simp [State.afterFrame]
  · rw [frame, execCode_of_literal _ no_switch found]
    rfl
  · rw [frame, execCode_of_unmapped _ no_switch not_found]
    rfl

/-! ### CB_DEFAULT (R71, R127 to R158) -/

theorem switchRow_of_lookup {mk : Nat → Instr} {code : Code} {target : Mode}
    (own_code : ∀ n, Instr.frameOf code n = mk n) (found : cbDefault.switch.lookup code = some target) :
    switchRow mk code target := by
  intro n s some_stop default
  rw [exec_frame (own_code n) some_stop, default, execCode_of_switch _ _ found]

/-- Settles O8: the switch table of CB_DEFAULT holds the three codes. -/
theorem defaultCodebookSwitchFrames : Obligations.DefaultCodebookSwitchFrames :=
  ⟨switchRow_of_lookup (fun _ => rfl) rfl, switchRow_of_lookup (fun _ => rfl) rfl,
    switchRow_of_lookup (fun _ => rfl) rfl⟩

/-- A frame whose code CB_DEFAULT has as a character of the mode's table. -/
theorem exec_literal {i : Instr} {c : Code} {n : Nat} {s : State} {m : Mode} {ch : Char}
    (own_code : Instr.frameOf c n = i) (some_stop : 1 ≤ n) (default : s.cfg.params.codebook = cbDefault)
    (no_switch : cbDefault.switch.lookup c = none) (found : (cbDefault.table m).lookup c = some ch)
    (mode : s.sync.m = m) : exec i s = .next (s.afterFrame c n (some ch, m)) := by
  rw [exec_frame own_code some_stop, default, mode, execCode_of_literal _ no_switch found]

theorem literalRow_of_lookup {mk : Nat → Instr} {code : Code} {lat rus figs : Char}
    (own_code : ∀ n, Instr.frameOf code n = mk n) (no_switch : cbDefault.switch.lookup code = none)
    (in_lat : cbDefault.lat.lookup code = some lat) (in_rus : cbDefault.rus.lookup code = some rus)
    (in_figs : cbDefault.figs.lookup code = some figs) : literalRow mk code lat rus figs :=
  fun n _ some_stop default =>
    ⟨exec_literal (own_code n) some_stop default no_switch in_lat,
      exec_literal (own_code n) some_stop default no_switch in_rus,
      exec_literal (own_code n) some_stop default no_switch in_figs⟩

/-- Settles O9: each row's code is no switch code and stands in the three tables. -/
theorem defaultCodebookLiteralFrames : Obligations.DefaultCodebookLiteralFrames := by
  unfold Obligations.DefaultCodebookLiteralFrames
  and_intros <;> exact literalRow_of_lookup (fun _ => rfl) rfl rfl rfl rfl

/-- Settles O10: 10010 is the one code that the FIGS table lacks. -/
theorem defaultCodebookUnmappedFrame : Obligations.DefaultCodebookUnmappedFrame := by
  intro n s some_stop default
  refine ⟨exec_literal rfl some_stop default rfl rfl, exec_literal rfl some_stop default rfl rfl, fun mode => ?_⟩
  have frame := exec_frame (i := .frame10010 n) (c := Code.of 1 0 0 1 0) rfl some_stop s
  rw [frame, default, mode, execCode_of_unmapped (cb := cbDefault) _ rfl rfl]

/-! ### EXEC, SYNC, FORMAT as instructions -/

theorem exec_exec (c : Code) (m : Mode) (s : State) : exec (.exec c m) s = .next (s.respond (.executed
    (execCode s.cfg.params.codebook s.cfg.params.placeholder c m).1
    (execCode s.cfg.params.codebook s.cfg.params.placeholder c m).2)) := rfl

/-- Settles O12, by the three ways of `Exec`. -/
theorem execLooksUpSwitchThenModeTable : Obligations.ExecLooksUpSwitchThenModeTable := by
  intro c m s
  refine ⟨fun target found => ?_, fun ch no_switch found => ?_, fun no_switch not_found => ?_⟩
  · rw [exec_exec, execCode_of_switch _ _ found]; rfl
  · rw [exec_exec, execCode_of_literal _ no_switch found]; rfl
  · rw [exec_exec, execCode_of_unmapped _ no_switch not_found]; rfl

/-- The document's example: the switch frame 11011 and then the frame 00001, which FIGS has as `5`. -/
theorem syncBits_figs_example {cb : Codebook} (ph : Char) (to_figs : cb.switch.lookup (Code.of 1 1 0 1 1) = some .figs)
    (no_switch : cb.switch.lookup (Code.of 0 0 0 0 1) = none) (five : cb.figs.lookup (Code.of 0 0 0 0 1) = some '5') :
    syncBits cb ph (enc (Code.of 1 1 0 1 1) ++ enc (Code.of 0 0 0 0 1)) .lat = ⟨['5'], 16, .figs⟩ := by
  rw [enc, enc, syncBits_encS_append cb ph .lat _ one_le_two, execCode_of_switch ph _ to_figs,
    syncBits_encS cb ph _ .figs one_le_two, execCode_of_literal (m := .figs) ph no_switch five]
  rfl

/-- Settles O11: the code is looked up in the switch table first. -/
theorem figsSwitchCodeEmitsNothing : Obligations.FigsSwitchCodeEmitsNothing := by
  refine ⟨fun n s some_stop found => ⟨?_, fun m => ?_⟩, rfl, rfl, fun ph => ?_, fun ph => ?_⟩
  · have frame := exec_frame (i := .frame11011 n) (c := Code.of 1 1 0 1 1) rfl some_stop s
    rw [frame, execCode_of_switch _ _ found]
  · rw [exec_exec, execCode_of_switch _ _ found]; rfl
  · exact syncBits_figs_example ph rfl rfl rfl
  · exact syncBits_figs_example ph rfl rfl rfl

/-- Settles O13: SYNC is `Sync` under the block's Codebook and PLACEHOLDER. -/
theorem syncInstructionHandsBackItsResult : Obligations.SyncInstructionHandsBackItsResult := fun _ _ _ => rfl

end Sys2Proof.Machine
end

section
/-! Output formatting (R167): the model's fold is Mathlib's `destutter` of the text, carriage returns replaced. -/

namespace Sys2Proof.Machine

/-- `b` may follow `a` in a formatted text: they are not both newlines. -/
abbrev MayFollow (a b : Char) : Prop := ¬(a = '\n' ∧ b = '\n')

/-- The fold of `collapseLf` on a text whose last character so far is `a`. -/
theorem foldl_collapse_eq_destutter' (v : Text) (a : Char) (u : Text) :
    u.foldl (fun v c => if c = '\n' ∧ v.getLast? = some '\n' then v else v ++ [c]) (v ++ [a]) =
      v ++ u.destutter' MayFollow a := by
  induction u generalizing v a with
  | nil => rfl
  | cons c u ih =>
    by_cases both : a = '\n' ∧ c = '\n'
    · obtain ⟨rfl, rfl⟩ := both
      rw [List.foldl_cons, List.destutter'_cons_neg u (by simp), ← ih]
      simp
    · have kept : ¬(c = '\n' ∧ (v ++ [a]).getLast? = some '\n') := fun h => both ⟨by simpa using h.2, h.1⟩
      rw [List.foldl_cons, if_neg kept, ih, List.destutter'_cons_pos u both]
      simp

theorem collapseLf_eq_destutter (u : Text) : collapseLf u = u.destutter MayFollow := by
  cases u with
  | nil => rfl
  | cons a u =>
    rw [collapseLf, List.foldl_cons, if_neg (by simp)]
    exact foldl_collapse_eq_destutter' [] a u

/-- `destutter` drops newlines only. -/
theorem filter_destutter' (a : Char) (u : Text) :
    (u.destutter' MayFollow a).filter (· ≠ '\n') = (a :: u).filter (· ≠ '\n') := by
  induction u generalizing a with
  | nil => rfl
  | cons c u ih =>
    by_cases both : a = '\n' ∧ c = '\n'
    · rw [List.destutter'_cons_neg u (not_not.mpr both), ih]
      simp [both]
    · rw [List.destutter'_cons_pos u both]
      simp only [List.filter_cons, ih]

theorem filter_destutter (u : Text) : (u.destutter MayFollow).filter (· ≠ '\n') = u.filter (· ≠ '\n') := by
  cases u with
  | nil => rfl
  | cons a u => exact filter_destutter' a u

theorem cr_not_mem_crToLf (t : Text) : '\r' ∉ crToLf t := by
  simp only [crToLf, List.mem_map, not_exists, not_and]
  intro c _
  split
  · decide
  · assumption

theorem filter_crToLf (t : Text) : (crToLf t).filter (· ≠ '\n') = t.filter fun c => c ≠ '\n' ∧ c ≠ '\r' := by
  induction t with
  | nil => rfl
  | cons c t ih =>
    rw [crToLf, List.map_cons, ← crToLf]
    by_cases cr : c = '\r'
    · simpa [cr] using ih
    · by_cases lf : c = '\n' <;> simpa [cr, lf] using ih

/-- Settles O14: `Format` is `destutter` after the replacement, which leaves no carriage return. -/
theorem formatReplacesAndCollapsesNewlines : Obligations.FormatReplacesAndCollapsesNewlines := by
  intro t s
  refine ⟨?_, fun cr => ?_, List.isChain_destutter _ _, ?_⟩
  · exact congrArg (fun u => Host.Outcome.next (s.respond (.formatted u))) (collapseLf_eq_destutter (crToLf t))
  · exact cr_not_mem_crToLf t ((List.destutter_sublist _ _).subset cr)
  · exact (filter_destutter (crToLf t)).trans (filter_crToLf t)

end Sys2Proof.Machine
end

section
/-! The port operations one by one (R159, R160, R169 to R174). -/

namespace Sys2Proof.Machine

/-- Settles O29: RESET's meaning is the same from every state. -/
theorem resetGivesResetValuesAndKeepsConfiguration : Obligations.ResetGivesResetValuesAndKeepsConfiguration := by
  refine ⟨fun s => rfl, fun s t answered => ?_, rfl, rfl, rfl, rfl, rfl⟩
  obtain rfl := Host.Outcome.next.inj answered
  rfl

theorem bitsReady_iff (s : State) : s.bitsReady = true ↔ 7 ≤ s.bb.length ∧ s.run = .running := by
  simp [State.bitsReady]

theorem exec_poll_of_stopped {s : State} (stopped : s.run = .stopped) : exec .poll s = .next s :=
  congrArg Host.Outcome.next (whenRunning_of_stopped pollEffect stopped)

/-- A POLL of a running session leaves fewer than 7 bits waiting (R111). -/
theorem pollEffect_bb_short (s : State) : (pollEffect s).bb.length < 7 := by
  obtain ⟨short, effect⟩ | ⟨-, effect⟩ := pollEffect_cases s
  · rw [effect]; exact short
  · rw [effect]; exact deliver_syncWith_bb_short s

/-- Settles O35, by RUN and by the two sides of POLL's gate. -/
theorem pollLeavesBitsReadyFalse : Obligations.PollLeavesBitsReadyFalse := by
  refine ⟨bitsReady_iff, fun s t answered => ?_, fun s ready => ?_, fun s running not_ready => ?_⟩
  · rw [← Bool.not_eq_true, bitsReady_iff]
    rintro ⟨full, running⟩
    cases run : s.run with
    | running =>
      obtain rfl := Host.Outcome.next.inj ((exec_poll_of_running run).symm.trans answered)
      exact absurd (pollEffect_bb_short s) (Nat.not_lt.mpr full)
    | stopped =>
      obtain rfl := Host.Outcome.next.inj ((exec_poll_of_stopped run).symm.trans answered)
      exact absurd (run.symm.trans running) nofun
  · obtain ⟨full, running⟩ := (bitsReady_iff s).mp ready
    exact exec_poll_of_full running full
  · have short : s.bb.length < 7 := by
      by_contra full
      rw [(bitsReady_iff s).mpr ⟨Nat.not_lt.mp full, running⟩] at not_ready
      cases not_ready
    exact exec_poll_of_short running short

theorem exec_stop_of_running {s : State} (running : s.run = .running) :
    exec .stop s = .next ((pollEffect s).withRun .stopped) :=
  congrArg Host.Outcome.next (whenRunning_of_running _ running)

/-- Settles O36: STOP is POLL's effect with RUN stopped. -/
theorem stopIsOneLastPollThenStopped : Obligations.StopIsOneLastPollThenStopped := by
  refine ⟨fun s running => ⟨pollEffect s, exec_poll_of_running running, exec_stop_of_running running⟩,
    fun s running short => ?_⟩
  rw [exec_stop_of_running running, pollEffect, if_pos short]
  rfl

/-- Settles O37. -/
theorem abortDiscardsBacklogsAndReportsSourceFailure : Obligations.AbortDiscardsBacklogsAndReportsSourceFailure :=
  fun _ running => congrArg Host.Outcome.next (whenRunning_of_running _ running)

/-- Settles O38: five operations stand under the acceptance of R159, and RESET does not. -/
theorem stoppedSessionRefusesWithoutChange : Obligations.StoppedSessionRefusesWithoutChange := by
  intro s stopped
  have refused (f : State → State) :
      Host.Outcome.next (whenRunning s f) = (.next s : Host.Outcome State Fault Refusal) :=
    congrArg Host.Outcome.next (whenRunning_of_stopped f stopped)
  exact ⟨fun _ => refused _, fun _ => refused _, refused _, refused _, refused _, _, rfl, rfl⟩

/-- Settles O41. -/
theorem batchIgnoresTheSession : Obligations.BatchIgnoresTheSession := by
  intro raw s t same
  obtain ⟨x, answer⟩ := exec_batch_responds raw t.cfg
  exact ⟨x, answer s same, answer t rfl⟩

theorem exec_batch_of_error {raw : Signal} {k : ErrorKind} (s : State) (failed : preprocess raw = .error k) :
    exec (.batch raw) s = .next (s.respond (.error k)) := by
  simp only [exec, execBatch, failed, State.raise_eq]

theorem exec_batch_of_ok {raw : Signal} {x : List ℝ} (s : State) (accepted : preprocess raw = .ok x) :
    exec (.batch raw) s = .next (s.respond (.decoded (s.syncWith (demodAll s.cfg.params x) .lat).text)) := by
  simp only [exec, execBatch, accepted]

/-- Settles O40, by Preprocess's three answers. -/
theorem batchDecodesOnceFromLatOrReportsError : Obligations.BatchDecodesOnceFromLatOrReportsError := by
  obtain ⟨empty, silent, loud⟩ := preprocessNormalisesFirstChannelOrFails
  intro s
  refine ⟨exec_batch_of_error s empty, fun raw some_moment zeros => ?_, fun raw big attained bound nonzero => ?_⟩
  · exact exec_batch_of_error s (silent raw some_moment zeros)
  · obtain ⟨accepted, -⟩ := loud raw big attained bound nonzero
    exact exec_batch_of_ok s accepted

end Sys2Proof.Machine
end

section
/-! Whole windows and the samples left over (R48, R161 to R165): what the drain loop, SAMPLE and PUSH make of them. -/

namespace Sys2Proof.Machine

/-- The samples after the last whole window. -/
def leftover (p : Params) (xs : List Sample) : List Sample := xs.drop (xs.length / p.spb * p.spb)

section
variable {p : Params} {xs : List Sample}

theorem windowBits_of_waiting (waiting : xs.length < p.spb) : windowBits p xs = [] := by
  rw [windowBits, Nat.div_eq_of_lt waiting]
  rfl

theorem leftover_of_waiting (waiting : xs.length < p.spb) : leftover p xs = xs := by
  rw [leftover, Nat.div_eq_of_lt waiting, Nat.zero_mul]
  rfl

theorem div_spb_of_window (positive : 0 < p.spb) (window : p.spb ≤ xs.length) :
    xs.length / p.spb = (xs.drop p.spb).length / p.spb + 1 := by
  rw [List.length_drop, Nat.div_eq_sub_div positive window]

/-- The first window gives the first bit, and the others are those of the samples after it. -/
theorem windowBits_of_window (positive : 0 < p.spb) (window : p.spb ≤ xs.length) :
    windowBits p xs = windowBit p ((xs.take p.spb).map sampleValue) :: windowBits p (xs.drop p.spb) := by
  rw [windowBits, div_spb_of_window positive window, List.range_succ_eq_map, List.map_cons, List.map_map]
  refine congrArg₂ List.cons (by rw [Nat.zero_mul, List.drop_zero]) (List.map_congr_left fun k _ => ?_)
  rw [Function.comp_apply, List.drop_drop, Nat.succ_mul, Nat.add_comm]

theorem leftover_of_window (positive : 0 < p.spb) (window : p.spb ≤ xs.length) :
    leftover p xs = leftover p (xs.drop p.spb) := by
  rw [leftover, div_spb_of_window positive window, Nat.succ_mul, Nat.add_comm, ← List.drop_drop]
  rfl

theorem leftover_length : (leftover p xs).length = xs.length % p.spb := by
  rw [leftover, List.length_drop, Nat.mod_eq_sub_div_mul]

theorem leftover_waits (positive : 0 < p.spb) : (leftover p xs).length < p.spb := by
  rw [leftover_length]
  exact Nat.mod_lt _ positive

/-- Induction along the windows of a sample sequence. -/
theorem windows_induction {motive : List Sample → Prop} (positive : 0 < p.spb)
    (waiting : ∀ xs, xs.length < p.spb → motive xs)
    (window : ∀ xs, p.spb ≤ xs.length → motive (xs.drop p.spb) → motive xs) (xs : List Sample) : motive xs := by
  induction n : xs.length using Nat.strongRecOn generalizing xs with
  | ind n ih =>
    subst n
    rcases Nat.lt_or_ge xs.length p.spb with short | whole
    · exact waiting xs short
    · exact window xs whole (ih _ (by rw [List.length_drop]; omega) _ rfl)

/-- The windows of a sequence delivered in two parts: those of the first part, and those of its leftover samples and the
second part (R162). -/
theorem windowBits_append (positive : 0 < p.spb) (xs ys : List Sample) :
    windowBits p (xs ++ ys) = windowBits p xs ++ windowBits p (leftover p xs ++ ys) ∧
      leftover p (xs ++ ys) = leftover p (leftover p xs ++ ys) := by
  induction xs using windows_induction positive with
  | waiting xs short => rw [windowBits_of_waiting short, leftover_of_waiting short]; exact ⟨rfl, rfl⟩
  | window xs whole ih =>
    have longer : p.spb ≤ (xs ++ ys).length := by rw [List.length_append]; omega
    rw [windowBits_of_window positive longer, leftover_of_window positive longer, windowBits_of_window positive whole,
      leftover_of_window positive whole, List.take_append_of_le_length whole, List.drop_append_of_le_length whole, ih.1,
      ih.2]
    exact ⟨rfl, rfl⟩

end

/-! ### Delivering samples -/

/-- The state after samples have been delivered: their whole windows have become bits, the others wait. -/
def State.receive (xs : List Sample) (s : State) : State :=
  (s.withSb (leftover s.cfg.params (s.sb ++ xs))).withBb (s.bb ++ windowBits s.cfg.params (s.sb ++ xs))

theorem receive_waits (xs : List Sample) (s : State) : (s.receive xs).sb.length < (s.receive xs).cfg.params.spb :=
  leftover_waits s.cfg.spb_pos

theorem receive_nil {s : State} (waiting : s.sb.length < s.cfg.params.spb) : s.receive [] = s := by
  rw [State.receive, List.append_nil, windowBits_of_waiting waiting, leftover_of_waiting waiting, List.append_nil]
  rfl

theorem receive_receive (xs ys : List Sample) (s : State) : (s.receive xs).receive ys = s.receive (xs ++ ys) := by
  obtain ⟨bits, rest⟩ := windowBits_append s.cfg.spb_pos (s.sb ++ xs) ys
  rw [List.append_assoc] at bits rest
  refine State.ext_fields _ _ rfl rfl rfl rest.symm ?_ rfl rfl rfl rfl
  exact (List.append_assoc _ _ _).trans (congrArg (s.bb ++ ·) bits.symm)

/-- The drain loop turns the windows of SB into bits, one a round. -/
theorem drainRounds_eq (n : Nat) (s : State) (enough : s.sb.length ≤ n) : drainRounds n s = s.receive [] := by
  induction n generalizing s with
  | zero =>
    have positive := s.cfg.spb_pos
    rw [receive_nil (by omega)]
    rfl
  | succ n ih =>
    rcases Nat.lt_or_ge s.sb.length s.cfg.params.spb with short | whole
    · rw [drainRounds_of_waiting _ short, receive_nil short]
    · have positive := s.cfg.spb_pos
      have fewer : (demodStep s).sb.length ≤ n := by
        rw [demodStep_of_window whole, State.withBb_sb, State.withSb_sb, List.length_drop]
        omega
      rw [drainRounds_of_window n whole, ih _ fewer, demodStep_of_window whole]
      simp only [State.receive, List.append_nil]
      refine State.ext_fields _ _ rfl rfl rfl ?_ ?_ rfl rfl rfl rfl
      · exact (leftover_of_window positive whole).symm
      · exact (List.append_assoc _ _ _).trans (congrArg (s.bb ++ ·) (windowBits_of_window positive whole).symm)

theorem drain_eq (s : State) : drain s = s.receive [] := drainRounds_eq _ _ le_rfl

theorem drain_withSb_append (s : State) (xs : List Sample) : drain (s.withSb (s.sb ++ xs)) = s.receive xs := by
  rw [drain_eq]
  simp only [State.receive, State.withSb_sb, List.append_nil]
  rfl

theorem exec_sample_of_running {s : State} (running : s.run = .running) (x : Sample) :
    exec (.sample x) s = .next (s.receive [x]) := by
  simp only [exec, execSample, whenRunning_of_running _ running, drain_withSb_append]

theorem exec_push_of_running {s : State} (running : s.run = .running) (chunk : List Sample) :
    exec (.push chunk) s = .next (s.receive chunk) := by
  simp only [exec, execPush, whenRunning_of_running _ running, drain_withSb_append,
    truncateSb_of_waiting (receive_waits chunk s)]

/-- Settles O31: the drain loop takes every whole window, so that the truncation finds nothing to drop. -/
theorem pushDemodulatesEveryWholeWindow : Obligations.PushDemodulatesEveryWholeWindow :=
  ⟨fun chunk _ running => exec_push_of_running running chunk,
    fun _ running waiting => (exec_push_of_running running []).trans (congrArg Host.Outcome.next (receive_nil waiting))⟩

/-- Settles O30: one more sample makes no window, or exactly one. -/
theorem sampleStoresOrCompletesAWindow : Obligations.SampleStoresOrCompletesAWindow := by
  intro x s running waiting
  rw [exec_sample_of_running running]
  refine ⟨fun short => ?_, fun whole => ?_⟩
  · have still_waiting : (s.sb ++ [x]).length < s.cfg.params.spb := by simpa using short
    rw [State.receive, windowBits_of_waiting still_waiting, leftover_of_waiting still_waiting, List.append_nil]
    rfl
  · have window : (s.sb ++ [x]).length = s.cfg.params.spb := by simpa using whole
    have nothing_left : (s.sb ++ [x]).drop s.cfg.params.spb = [] := List.drop_of_length_le window.le
    have empty_waits : ([] : List Sample).length < s.cfg.params.spb := s.cfg.spb_pos
    rw [State.receive, windowBits_of_window s.cfg.spb_pos window.ge, leftover_of_window s.cfg.spb_pos window.ge,
      nothing_left, List.take_of_length_le window.le, windowBits_of_waiting empty_waits,
      leftover_of_waiting empty_waits]
    rfl

/-- Settles O32, by induction on the chunk: what is received in two parts is received at once. -/
theorem pushEqualsItsSamplesOneByOne : Obligations.PushEqualsItsSamplesOneByOne := by
  intro chunk
  induction chunk with
  | nil =>
    intro s running waiting
    rw [exec_push_of_running running, receive_nil waiting]
    rfl
  | cons x chunk ih =>
    intro s running waiting
    have others := ih (s.receive [x]) running (receive_waits [x] s)
    rw [exec_push_of_running (s := s.receive [x]) running, receive_receive] at others
    rw [List.foldl_cons, exec_push_of_running running]
    dsimp only
    rw [exec_sample_of_running running]
    exact others

/-! ### A sequence of deliveries (R162) -/

theorem exec_delivery {o : PortOp} (delivers : deliversSamples o = true) {s : State} (running : s.run = .running) :
    exec (portInstr o) s = .next (s.receive (deliveredBy o)) := by
  cases o with
  | sample x => exact exec_sample_of_running running x
  | push chunk => exact exec_push_of_running running chunk
  | _ => cases delivers

/-- Deliveries asked for in a row have the effect of one. -/
theorem run_deliveries (ops : List PortOp) (s : State) (asked : s.pending = ops.map .op) (running : s.run = .running)
    (atomic : s.evaluating = false) (waiting : s.sb.length < s.cfg.params.spb)
    (deliver : ∀ o ∈ ops, deliversSamples o = true) :
    Host.Core.run core ops.length s = .next ((s.receive (ops.flatMap deliveredBy)).withPending []) := by
  induction ops generalizing s with
  | nil =>
    have done : s.withPending [] = s := State.ext_fields _ _ rfl rfl rfl rfl rfl rfl rfl asked.symm rfl
    rw [List.flatMap_nil, receive_nil waiting, done]
    rfl
  | cons o ops ih =>
    obtain ⟨first, others⟩ := List.forall_mem_cons.mp deliver
    have served : step s = .next ((s.withPending (ops.map .op)).receive (deliveredBy o)) :=
      (step_of_op atomic asked).trans (exec_delivery first running)
    have rest := ih ((s.withPending (ops.map .op)).receive (deliveredBy o)) rfl running atomic
      (receive_waits _ _) others
    rw [receive_receive, ← List.flatMap_cons] at rest
    exact (run_of_step served ops.length).trans rest

/-- Settles O33: the operations together deliver all their samples, in order. -/
theorem windowBoundariesDependOnlyOnSampleCount : Obligations.WindowBoundariesDependOnlyOnSampleCount := by
  intro ops s running atomic waiting deliver
  exact ⟨_, run_deliveries ops (s.withPending (ops.map .op)) rfl running atomic waiting deliver, rfl, rfl,
    leftover_length, rfl, rfl, rfl, rfl⟩

/-! ### Both backlogs (R42, R43) -/

theorem pollEffect_of_short {s : State} (short : s.bb.length < 7) : pollEffect s = s.respond (.fragment []) :=
  if_pos short

/-- An operation that is refused, or finds fewer than 7 bits and then keeps the backlogs, keeps them. -/
theorem gated_keeps_backlogs {s : State} {f : State → State} (gate : s.run = .stopped ∨ s.bb.length < 7)
    (keeps : s.bb.length < 7 → (f s).sb = s.sb ∧ (f s).bb = s.bb) :
    (whenRunning s f).sb = s.sb ∧ (whenRunning s f).bb = s.bb := by
  obtain ⟨running, accepted⟩ | ⟨-, refused⟩ := whenRunning_cases s f
  · rw [accepted]
    exact keeps (gate.resolve_left fun stopped => absurd (running.symm.trans stopped) nofun)
  · rw [refused]; exact ⟨rfl, rfl⟩

/-- An operation that is no delivery, no DEMOD that finds a window, and no POLL or STOP that runs the synchroniser
leaves both backlogs as they are. -/
theorem exec_keeps_backlogs {i : Instr} {s t : State} (answered : exec i s = .next t) (no_reset : i ≠ .reset)
    (no_abort : i ≠ .abort) (refused : ((∃ x, i = .sample x) ∨ ∃ c, i = .push c) → s.run = .stopped)
    (no_window : i = .demod → s.sb.length < s.cfg.params.spb)
    (gated : i = .poll ∨ i = .stop → s.run = .stopped ∨ s.bb.length < 7) : t.sb = s.sb ∧ t.bb = s.bb := by
  cases i using Instr.cases_by_kind with
  | frame c n =>
    obtain rfl := Host.Outcome.next.inj ((exec_frameOf c n s).symm.trans answered)
    exact ⟨rfl, rfl⟩
  | reset => exact absurd rfl no_reset
  | abort => exact absurd rfl no_abort
  | sample x =>
    obtain rfl := Host.Outcome.next.inj answered
    rw [whenRunning_of_stopped _ (refused (.inl ⟨x, rfl⟩))]
    exact ⟨rfl, rfl⟩
  | push chunk =>
    obtain rfl := Host.Outcome.next.inj answered
    rw [whenRunning_of_stopped _ (refused (.inr ⟨chunk, rfl⟩))]
    exact ⟨rfl, rfl⟩
  | poll =>
    obtain rfl := Host.Outcome.next.inj answered
    exact gated_keeps_backlogs (gated (.inl rfl)) fun short => pollEffect_of_short short ▸ ⟨rfl, rfl⟩
  | stop =>
    obtain rfl := Host.Outcome.next.inj answered
    exact gated_keeps_backlogs (gated (.inr rfl)) fun short => pollEffect_of_short short ▸ ⟨rfl, rfl⟩
  | batch raw =>
    obtain ⟨x, answer⟩ := exec_batch_responds raw s.cfg
    obtain rfl := Host.Outcome.next.inj ((answer s rfl).symm.trans answered)
    exact ⟨rfl, rfl⟩
  | demod =>
    obtain rfl := Host.Outcome.next.inj ((exec_demod_of_waiting (no_window rfl)).symm.trans answered)
    exact ⟨rfl, rfl⟩
  | _ =>
    obtain rfl := Host.Outcome.next.inj answered
    exact ⟨rfl, rfl⟩

/-- Settles O47, by who the operation is: a delivery, DEMOD, POLL or STOP, or another. -/
theorem backlogsChangeOnlyAtTheirEnds : Obligations.BacklogsChangeOnlyAtTheirEnds := by
  intro i s t answered no_reset no_abort
  refine ⟨fun xs delivery running => ?_, fun demod window => ?_, fun last_poll running full => ?_,
    exec_keeps_backlogs answered no_reset no_abort⟩
  · have received : t = s.receive xs := by
      obtain ⟨x, rfl, rfl⟩ | rfl := delivery
      · exact Host.Outcome.next.inj (answered.symm.trans (exec_sample_of_running running x))
      · exact Host.Outcome.next.inj (answered.symm.trans (exec_push_of_running running xs))
    rw [received]
    exact ⟨rfl, rfl⟩
  · subst demod
    obtain rfl := Host.Outcome.next.inj ((exec_demod_of_window window).symm.trans answered)
    rw [windowBits_of_window s.cfg.spb_pos window]
    exact ⟨rfl, rfl⟩
  · have delivered : pollEffect s = s.deliver (s.syncWith s.bb s.mode) := if_neg (Nat.not_lt.mpr full)
    obtain rfl | rfl := last_poll
    · obtain rfl := Host.Outcome.next.inj ((exec_poll_of_running running).symm.trans answered)
      rw [delivered]
      exact ⟨rfl, rfl⟩
    · obtain rfl := Host.Outcome.next.inj ((exec_stop_of_running running).symm.trans answered)
      rw [delivered]
      exact ⟨rfl, rfl⟩

end Sys2Proof.Machine
end

section
/-! The determinism law on a session (R176): POLLs may fall anywhere. -/

namespace Sys2Proof.Machine

/-- Fewer than 7 bits hold no frame: no text, and the mode is kept. -/
theorem syncBits_of_short (cb : Codebook) (ph : Char) {bits : List Bit} (m : Mode) (short : bits.length < 7) :
    (syncBits cb ph bits m).text = [] ∧ (syncBits cb ph bits m).mode = m := by
  induction bits using bits_induction with
  | empty => exact ⟨rfl, rfl⟩
  | one rest ih =>
    rw [syncBits_one]
    exact ih (Nat.lt_of_succ_lt short)
  | short rest few => rw [syncBits_incomplete cb ph m few]; exact ⟨rfl, rfl⟩
  | falseStart d rest _ => simp at short; omega
  | frame c rest _ => simp at short; omega

theorem cumulativeText_append (xs ys : List Response) :
    cumulativeText (xs ++ ys) = cumulativeText xs ++ cumulativeText ys := List.flatMap_append

theorem cumulativeText_fragment (t : Text) : cumulativeText [.fragment t] = t := List.append_nil t

/-- All the bits of a session: those waiting, and those of the windows of the samples waiting and still to come. -/
def State.allBits (xs : List Sample) (s : State) : List Bit := s.bb ++ windowBits s.cfg.params (s.sb ++ xs)

theorem allBits_nil {s : State} (waiting : s.sb.length < s.cfg.params.spb) : s.allBits [] = s.bb := by
  rw [State.allBits, List.append_nil, windowBits_of_waiting waiting, List.append_nil]

/-- Delivering samples does not change all the bits of the session. -/
theorem receive_allBits (xs ys : List Sample) (s : State) : (s.receive xs).allBits ys = s.allBits (xs ++ ys) := by
  have windows := (windowBits_append s.cfg.spb_pos (s.sb ++ xs) ys).1
  rw [List.append_assoc] at windows
  rw [State.allBits, State.allBits, windows]
  exact List.append_assoc _ _ _

/-- With FMT = 0 a POLL hands back what `Sync` of all the bits of the session begins with, and leaves what it goes on
with. -/
theorem pollEffect_splits_sync {s : State} (unformatted : s.cfg.params.fmt = false) : ∃ (k : Nat) (t : Text),
    cumulativeText (pollEffect s).returned = cumulativeText s.returned ++ t ∧
    ∀ xs, s.syncWith (s.allBits xs) s.mode =
      (s.syncWith ((pollEffect s).allBits xs) (pollEffect s).mode).after k t := by
  obtain ⟨-, effect⟩ | ⟨-, effect⟩ := pollEffect_cases s
  · refine ⟨0, [], ?_, fun xs => ?_⟩
    · rw [effect, State.respond_returned, cumulativeText_append, cumulativeText_fragment]
    · rw [effect, SyncResult.after_nil]
      rfl
  · refine ⟨(s.syncWith s.bb s.mode).consumed, (s.syncWith s.bb s.mode).text, ?_, fun xs => ?_⟩
    · rw [effect, State.deliver_returned, unformatted, cumulativeText_append, cumulativeText_fragment]
      rfl
    · rw [effect]
      exact syncBits_append s.cfg.params.codebook s.cfg.params.placeholder s.bb _ s.mode

theorem pollEffect_frame (s : State) : (pollEffect s).run = s.run ∧ (pollEffect s).sb = s.sb ∧
    (pollEffect s).sync = s.sync ∧ (pollEffect s).evaluating = s.evaluating ∧ (pollEffect s).pending = s.pending := by
  obtain ⟨-, effect⟩ | ⟨-, effect⟩ := pollEffect_cases s <;> rw [effect] <;> exact ⟨rfl, rfl, rfl, rfl, rfl⟩

/-- The final state of a session and its text, in terms of one `Sync` over all its bits. -/
def SessionEnds (xs : List Sample) (s t : State) : Prop :=
  cumulativeText t.returned = cumulativeText s.returned ++ (s.syncWith (s.allBits xs) s.mode).text ∧
    t.mode = (s.syncWith (s.allBits xs) s.mode).mode

theorem syncWith_of_cfg {s t : State} (same : t.cfg = s.cfg) (bits : List Bit) (m : Mode) :
    t.syncWith bits m = s.syncWith bits m := by
  rw [State.syncWith, State.syncWith, same]

/-- A POLL before the end of a session does not change where it ends. -/
theorem SessionEnds.of_poll {xs : List Sample} {s t : State} (unformatted : s.cfg.params.fmt = false)
    (h : SessionEnds xs (pollEffect s) t) : SessionEnds xs s t := by
  obtain ⟨k, fragment, text, rest⟩ := pollEffect_splits_sync unformatted
  obtain ⟨text', mode'⟩ := h
  rw [syncWith_of_cfg (pollEffect_cfg s)] at text' mode'
  rw [SessionEnds, rest]
  exact ⟨by rw [text', text, List.append_assoc]; rfl, mode'⟩

theorem SessionEnds.of_receive {xs ys : List Sample} {s t : State} (h : SessionEnds ys (s.receive xs) t) :
    SessionEnds (xs ++ ys) s t := by
  rw [SessionEnds, receive_allBits] at h
  exact h

/-- The last POLL of a session ends it: what is left then holds no frame. -/
theorem SessionEnds.last_poll {s : State} (unformatted : s.cfg.params.fmt = false)
    (waiting : s.sb.length < s.cfg.params.spb) : SessionEnds [] s (pollEffect s) := by
  refine SessionEnds.of_poll unformatted ?_
  have still_waiting : (pollEffect s).sb.length < (pollEffect s).cfg.params.spb := by
    obtain ⟨-, same_sb, -⟩ := pollEffect_frame s
    rw [same_sb, pollEffect_cfg]
    exact waiting
  obtain ⟨no_text, same_mode⟩ := syncBits_of_short (pollEffect s).cfg.params.codebook
    (pollEffect s).cfg.params.placeholder (pollEffect s).mode (pollEffect_bb_short s)
  rw [SessionEnds, allBits_nil still_waiting]
  exact ⟨by rw [State.syncWith, no_text, List.append_nil], same_mode.symm⟩

theorem withinSession_cases {o : PortOp} (h : withinSession o = true) :
    deliversSamples o = true ∨ o = .poll := by
  cases o with
  | sample x => exact .inl rfl
  | push chunk => exact .inl rfl
  | poll => exact .inr rfl
  | _ => cases h

/-- The requests of a session's operations and the POLL after them. -/
def sessionRequests (ops : List PortOp) : List Request := (ops ++ [PortOp.poll]).map .op

theorem run_session (ops : List PortOp) (s : State) (asked : s.pending = sessionRequests ops)
    (running : s.run = .running) (atomic : s.evaluating = false) (unformatted : s.cfg.params.fmt = false)
    (waiting : s.sb.length < s.cfg.params.spb) (within : ∀ o ∈ ops, withinSession o = true) :
    ∃ t, Host.Core.run core (ops.length + 1) s = .next t ∧ SessionEnds (ops.flatMap deliveredBy) s t := by
  induction ops generalizing s with
  | nil =>
    have served : step s = .next (pollEffect (s.withPending [])) :=
      (step_of_op atomic asked).trans (exec_poll_of_running running)
    exact ⟨_, run_of_step served 0, SessionEnds.last_poll (s := s.withPending []) unformatted waiting⟩
  | cons o ops ih =>
    obtain ⟨first, others⟩ := List.forall_mem_cons.mp within
    have served : step s = exec (portInstr o) (s.withPending (sessionRequests ops)) := step_of_op atomic asked
    obtain delivers | rfl := withinSession_cases first
    · have received := served.trans (exec_delivery delivers running)
      obtain ⟨t, run, ends⟩ := ih ((s.withPending (sessionRequests ops)).receive (deliveredBy o)) rfl running atomic
        unformatted (receive_waits _ _) others
      exact ⟨t, (run_of_step received _).trans run, SessionEnds.of_receive (s := s.withPending _) ends⟩
    · have polled := served.trans (exec_poll_of_running running)
      have same_cfg := pollEffect_cfg (s.withPending (sessionRequests ops))
      obtain ⟨same_run, same_sb, -, same_evaluating, same_pending⟩ :=
        pollEffect_frame (s.withPending (sessionRequests ops))
      obtain ⟨t, run, ends⟩ := ih (pollEffect (s.withPending (sessionRequests ops))) same_pending
        (same_run.trans running) (same_evaluating.trans atomic) (by rw [same_cfg]; exact unformatted)
        (by rw [same_cfg, same_sb]; exact waiting) others
      exact ⟨t, (run_of_step polled _).trans run,
        SessionEnds.of_poll (s := s.withPending (sessionRequests ops)) unformatted ends⟩

/-- Settles O42, by induction on the operations. -/
theorem sessionTextEqualsOneSyncOfAllBits : Obligations.SessionTextEqualsOneSyncOfAllBits := by
  intro ops s running atomic unformatted waiting within
  obtain ⟨t, run, text, mode⟩ := run_session ops (s.withPending (sessionRequests ops)) rfl running atomic unformatted
    waiting within
  refine ⟨t, ?_, text, mode⟩
  rw [serve, List.length_append]
  exact run

end Sys2Proof.Machine
end

section
/-! The invariant of the machine and the changes of MODE (R28, R32, R101, R111, R123). -/

namespace Sys2Proof.Machine

/-- The state after an operation that R159 accepts only while RUN is RUNNING. -/
theorem refused_or_effect {s t : State} {f : State → State} (h : whenRunning s f = t) :
    (s.run = .stopped ∧ t = s) ∨ (s.run = .running ∧ t = f s) := by
  obtain ⟨running, accepted⟩ | ⟨stopped, refused⟩ := whenRunning_cases s f
  · exact .inr ⟨running, h.symm.trans accepted⟩
  · exact .inl ⟨stopped, h.symm.trans refused⟩

/-- What a port operation can do, said once: it is refused, or it is RESET, a delivery of samples, POLL or STOP, BATCH,
or ABORT. -/
theorem exec_portInstr_cases {o : PortOp} {s t : State} (answered : exec (portInstr o) s = .next t) :
    (s.run = .stopped ∧ t = s) ∨
    (o = .reset ∧ t = { s with
      mode := .lat, run := .running, sb := [], bb := [], sync := SyncRegs.rest, evaluating := false }) ∨
    t = s.receive (deliveredBy o) ∨
    ((o = .poll ∨ o = .stop) ∧ s.run = .running ∧ ∃ r, t = (pollEffect s).withRun r) ∨
    (∃ x, t = s.respond x) ∨
    t = { s with bb := [], sb := [], run := .stopped, returned := s.returned ++ [.error .sourceFailure] } := by
  cases o with
  | reset => exact .inr (.inl ⟨rfl, (Host.Outcome.next.inj answered).symm⟩)
  | batch raw =>
    obtain ⟨x, answer⟩ := exec_batch_responds raw s.cfg
    have responds := Host.Outcome.next.inj (answered.symm.trans (answer s rfl))
    exact .inr (.inr (.inr (.inr (.inl ⟨x, responds⟩))))
  | sample x =>
    refine (refused_or_effect (Host.Outcome.next.inj answered)).imp id fun ⟨_, effect⟩ => .inr (.inl ?_)
    exact effect.trans (drain_withSb_append s [x])
  | push chunk =>
    refine (refused_or_effect (Host.Outcome.next.inj answered)).imp id fun ⟨_, effect⟩ => .inr (.inl ?_)
    exact effect.trans ((truncateSb_drain _).trans (drain_withSb_append s chunk))
  | poll =>
    refine (refused_or_effect (Host.Outcome.next.inj answered)).imp id fun ⟨running, effect⟩ => .inr (.inr (.inl ?_))
    exact ⟨.inl rfl, running, _, effect⟩
  | stop =>
    refine (refused_or_effect (Host.Outcome.next.inj answered)).imp id fun ⟨running, effect⟩ => .inr (.inr (.inl ?_))
    exact ⟨.inr rfl, running, .stopped, effect⟩
  | abort =>
    refine (refused_or_effect (Host.Outcome.next.inj answered)).imp id fun ⟨_, effect⟩ => ?_
    exact .inr (.inr (.inr (.inr effect)))

/-- What a step can do outside a watched POLL, said once. -/
theorem step_atomic_cases {s t : State} (atomic : s.evaluating = false) (answered : step s = .next t) :
    t = s ∨
    (∃ o rest, s.pending = .op o :: rest ∧ exec (portInstr o) (s.withPending rest) = .next t) ∨
    (∃ bits rest, t = (s.withPending rest).withBb bits) ∨
    (∃ rest, t = (s.withPending rest).respond (.fragment [])) ∨
    (s.run = .running ∧ ∃ rest, t = (s.withPending rest).openEvaluation) := by
  match asked : s.pending with
  | [] => exact .inl (Host.Outcome.next.inj (answered.symm.trans (step_of_no_request atomic asked)))
  | .op o :: rest => exact .inr (.inl ⟨o, rest, rfl, (step_of_op atomic asked).symm.trans answered⟩)
  | .bits bs :: rest =>
    obtain rfl := Host.Outcome.next.inj ((step_of_bits atomic asked).symm.trans answered)
    obtain ⟨-, accepted⟩ | ⟨-, refused⟩ := whenRunning_cases (s.withPending rest) fun s => s.withBb (s.bb ++ bs)
    · exact .inr (.inr (.inl ⟨_, rest, accepted⟩))
    · exact .inr (.inr (.inl ⟨s.bb, rest, refused⟩))
  | .pollByItems :: rest =>
    obtain rfl := Host.Outcome.next.inj ((step_of_pollByItems atomic asked).symm.trans answered)
    obtain ⟨-, refused⟩ | ⟨-, -, gated⟩ | ⟨running, -, opened⟩ := openPoll_cases (s.withPending rest)
    · exact .inr (.inr (.inl ⟨s.bb, rest, refused⟩))
    · exact .inr (.inr (.inr (.inl ⟨rest, gated⟩)))
    · exact .inr (.inr (.inr (.inr ⟨running, rest, opened⟩)))

/-! ### The invariant -/

/-- The invariant of a session in which no POLL is watched: less than a window waits, and the working registers rest. -/
structure State.AtRest (s : State) : Prop where
  window : s.sb.length < s.cfg.params.spb
  atomic : s.evaluating = false
  resting : s.sync = SyncRegs.rest

theorem State.AtRest.inv {s : State} (h : s.AtRest) : s.Inv :=
  ⟨h.window, fun _ => h.resting, fun watched => absurd (h.atomic.symm.trans watched) nofun,
    fun watched => absurd (h.atomic.symm.trans watched) nofun⟩

theorem State.Inv.atRest {s : State} (h : s.Inv) (atomic : s.evaluating = false) : s.AtRest :=
  ⟨h.window, atomic, h.resting atomic⟩

theorem receive_atRest {s : State} (h : s.AtRest) (xs : List Sample) : (s.receive xs).AtRest :=
  ⟨receive_waits xs s, h.atomic, h.resting⟩

theorem pollEffect_atRest {s : State} (h : s.AtRest) : (pollEffect s).AtRest := by
  obtain ⟨-, same_sb, same_sync, same_evaluating, -⟩ := pollEffect_frame s
  exact ⟨by rw [same_sb, pollEffect_cfg]; exact h.window, same_evaluating.trans h.atomic, same_sync.trans h.resting⟩

theorem exec_portInstr_atRest {o : PortOp} {s t : State} (h : s.AtRest) (answered : exec (portInstr o) s = .next t) :
    t.AtRest := by
  obtain ⟨-, rfl⟩ | ⟨-, rfl⟩ | rfl | ⟨-, -, r, rfl⟩ | ⟨x, rfl⟩ | rfl := exec_portInstr_cases answered
  · exact h
  · exact ⟨s.cfg.spb_pos, rfl, rfl⟩
  · exact receive_atRest h _
  · exact ⟨(pollEffect_atRest h).window, (pollEffect_atRest h).atomic, (pollEffect_atRest h).resting⟩
  · exact ⟨h.window, h.atomic, h.resting⟩
  · exact ⟨s.cfg.spb_pos, h.atomic, h.resting⟩

theorem step_atomic_inv {s t : State} (h : s.AtRest) (answered : step s = .next t) : t.Inv := by
  obtain rfl | ⟨o, rest, -, served⟩ | ⟨bits, rest, rfl⟩ | ⟨rest, rfl⟩ | ⟨running, rest, rfl⟩ :=
    step_atomic_cases h.atomic answered
  · exact h.inv
  · exact (exec_portInstr_atRest (s := s.withPending rest) ⟨h.window, h.atomic, h.resting⟩ served).inv
  · exact State.AtRest.inv ⟨h.window, h.atomic, h.resting⟩
  · exact State.AtRest.inv ⟨h.window, h.atomic, h.resting⟩
  · exact ⟨h.window, nofun, fun _ => ⟨running, rfl, Nat.zero_le _⟩, fun _ => .inl rfl⟩

theorem step_watched_inv {s t : State} (h : s.Inv) (watched : s.evaluating = true) (answered : step s = .next t) :
    t.Inv := by
  obtain ⟨-, -, ends⟩ | ⟨r, round, goes_on⟩ := step_watched_cases watched
  · obtain rfl := Host.Outcome.next.inj (ends.symm.trans answered)
    exact State.AtRest.inv ⟨h.window, rfl, rfl⟩
  · obtain rfl := Host.Outcome.next.inj (goes_on.symm.trans answered)
    obtain ⟨inside, seeking⟩ := syncRound_inside round
    obtain ⟨running, -, -⟩ := h.live watched
    exact ⟨h.window, fun atomic => absurd (watched.symm.trans atomic) nofun, fun _ => ⟨running, seeking, inside⟩,
      fun _ => syncRound_modeFrom (h.modeOrigin watched) round⟩

/-- Settles O43: a step from rest, and a step of a watched POLL. -/
theorem stepKeepsInvariant : Obligations.StepKeepsInvariant := by
  intro s t inv answered
  cases watched : s.evaluating with
  | true => exact step_watched_inv inv watched answered
  | false => exact step_atomic_inv (inv.atRest watched) answered

/-- Settles O44: after reset the block is at rest with no sample waiting. -/
theorem resetMeetsInvariant : Obligations.ResetMeetsInvariant :=
  State.AtRest.inv ⟨State.reset.cfg.spb_pos, rfl, rfl⟩

/-! ### Changes of MODE -/

/-- POLL changes MODE only by a switch frame among the bits it consumes. -/
theorem pollEffect_mode (s : State) : (pollEffect s).mode = s.mode ∨
    ((pollEffect s).bb = s.bb.drop (s.syncWith s.bb s.mode).consumed ∧
      SwitchFrameWithin s.cfg.params.codebook s.bb (s.syncWith s.bb s.mode).consumed (pollEffect s).mode) := by
  obtain ⟨-, effect⟩ | ⟨-, effect⟩ := pollEffect_cases s
  · rw [effect]; exact .inl rfl
  · rw [effect]
    exact (syncBits_mode s.cfg.params.codebook s.cfg.params.placeholder s.bb s.mode).imp id fun frame => ⟨rfl, frame⟩

/-- Settles O45: each way a step can change the state keeps MODE, but for RESET, POLL, STOP and the end of a watched
POLL. -/
theorem modeChangesOnlyBySwitchCodeOrReset : Obligations.ModeChangesOnlyBySwitchCodeOrReset := by
  intro s t inv answered
  cases watched : s.evaluating with
  | true =>
    obtain ⟨none_left, -, ends⟩ | ⟨r, -, goes_on⟩ := step_watched_cases watched
    · obtain rfl := Host.Outcome.next.inj (ends.symm.trans answered)
      obtain same | frame := inv.modeOrigin watched
      · exact .inl same
      · exact .inr (.inr (.inl ⟨rfl, none_left, rfl, frame⟩))
    · obtain rfl := Host.Outcome.next.inj (goes_on.symm.trans answered)
      exact .inl rfl
  | false =>
    obtain rfl | ⟨o, rest, asked, served⟩ | ⟨bits, rest, rfl⟩ | ⟨rest, rfl⟩ | ⟨-, rest, rfl⟩ :=
      step_atomic_cases watched answered
    case inr.inl =>
      obtain ⟨-, rfl⟩ | ⟨rfl, rfl⟩ | rfl | ⟨last_poll, running, r, rfl⟩ | ⟨x, rfl⟩ | rfl := exec_portInstr_cases served
      case inr.inl => exact .inr (.inr (.inr ⟨rfl, ⟨rest, asked⟩, rfl⟩))
      case inr.inr.inr.inl =>
        have asked_for : s.pending = .op .poll :: rest ∨ s.pending = .op .stop :: rest := by
          obtain rfl | rfl := last_poll
          · exact .inl asked
          · exact .inr asked
        exact (pollEffect_mode (s.withPending rest)).imp id fun ⟨consumed, frame⟩ =>
          .inl ⟨rfl, ⟨rest, asked_for⟩, running, consumed, frame⟩
      all_goals exact .inl rfl
    all_goals exact .inl rfl

end Sys2Proof.Machine
end

section
/-! The reference arithmetic (R85 to R89): its filters are linear, so its energies are quadratic (R93, R96). -/

namespace Sys2Proof.Machine

theorem filterFactor_length (q a x y : ℂ) (u : List ℂ) : (filterFactor q a x y u).length = u.length := by
  induction u generalizing x y with
  | nil => rfl
  | cons v u ih => simp only [filterFactor, List.length_cons, ih]

theorem filterFactors_length (factors : List (ℂ × ℂ)) (u : List ℂ) : (filterFactors factors u).length = u.length := by
  induction factors generalizing u with
  | nil => rfl
  | cons f factors ih => exact (ih _).trans (filterFactor_length _ _ _ _ u)

@[simp] theorem refFilter_length (f : FilterConfig) (b : Band) (u : List ℝ) : (refFilter f b u).length = u.length := by
  simp [refFilter, filterFactors_length]

@[simp] theorem refZeroPhase_length (f : FilterConfig) (b : Band) (u : List ℝ) :
    (refZeroPhase f b u).length = u.length := by
  simp [refZeroPhase]

theorem refEnergy_nonneg (f : FilterConfig) (b : Band) (u : List ℝ) : 0 ≤ refEnergy f b u := by
  refine List.sum_nonneg fun v hv => ?_
  obtain ⟨y, -, rfl⟩ := List.mem_map.mp hv
  exact sq_nonneg y

/-- The last reversal does not change the sum. -/
theorem refEnergy_eq_sum_before_reversal (f : FilterConfig) (b : Band) (u : List ℝ) :
    refEnergy f b u = ((refFilter f b (refFilter f b u).reverse).map fun y => y ^ 2).sum := by
  rw [refEnergy, refZeroPhase, List.map_reverse, List.sum_reverse]

theorem refEnergy_nil (f : FilterConfig) (b : Band) : refEnergy f b [] = 0 := by
  have empty : refZeroPhase f b [] = [] := List.eq_nil_of_length_eq_zero (refZeroPhase_length f b [])
  rw [refEnergy, empty]
  rfl

/-- Settles O17. -/
theorem referenceEnergyIsSumOfSquares : Obligations.ReferenceEnergyIsSumOfSquares := fun f b u =>
  ⟨refZeroPhase_length f b u, refEnergy_nonneg f b u, refEnergy_eq_sum_before_reversal f b u, refEnergy_nil f b⟩

/-! ### Scaling -/

theorem filterFactor_scale (c q a x y : ℂ) (u : List ℂ) :
    filterFactor q a (c * x) (c * y) (u.map (c * ·)) = (filterFactor q a x y u).map (c * ·) := by
  induction u generalizing x y with
  | nil => rfl
  | cons v u ih =>
    have linear : c * v - q * (c * x) + a * (c * y) = c * (v - q * x + a * y) := by ring
    simp only [filterFactor, List.map_cons, linear, ih]

theorem filterFactors_scale (c : ℂ) (factors : List (ℂ × ℂ)) (u : List ℂ) :
    filterFactors factors (u.map (c * ·)) = (filterFactors factors u).map (c * ·) := by
  induction factors generalizing u with
  | nil => rfl
  | cons f factors ih =>
    have first := filterFactor_scale c f.1 f.2 0 0 u
    rw [mul_zero] at first
    calc filterFactors (f :: factors) (u.map (c * ·))
        = filterFactors factors (filterFactor f.1 f.2 0 0 (u.map (c * ·))) := rfl
      _ = (filterFactors factors (filterFactor f.1 f.2 0 0 u)).map (c * ·) := by rw [first, ih]

theorem refFilter_scale (f : FilterConfig) (b : Band) (c : ℝ) (u : List ℝ) :
    refFilter f b (u.map (c * ·)) = (refFilter f b u).map (c * ·) := by
  have complex : (u.map (c * ·)).map Complex.ofReal = (u.map Complex.ofReal).map ((c : ℂ) * ·) := by simp
  rw [refFilter, complex, filterFactors_scale, refFilter, List.map_map, List.map_map]
  refine List.map_congr_left fun y _ => ?_
  simp only [Function.comp_apply, Complex.re_ofReal_mul]
  ring

theorem refZeroPhase_scale (f : FilterConfig) (b : Band) (c : ℝ) (u : List ℝ) :
    refZeroPhase f b (u.map (c * ·)) = (refZeroPhase f b u).map (c * ·) := by
  rw [refZeroPhase, refFilter_scale, ← List.map_reverse, refFilter_scale, ← List.map_reverse, refZeroPhase]

theorem refEnergy_scale (f : FilterConfig) (b : Band) (c : ℝ) (u : List ℝ) :
    refEnergy f b (u.map (c * ·)) = c ^ 2 * refEnergy f b u := by
  rw [refEnergy, refZeroPhase_scale, List.map_map, refEnergy, ← List.sum_map_mul_left]
  refine congrArg List.sum (List.map_congr_left fun y _ => ?_)
  exact mul_pow c y 2

theorem disc_refNumerics_scale (f : FilterConfig) (trimLen : Nat) (seg : List ℝ) {c : ℝ} (positive : 0 < c) :
    disc refNumerics f trimLen (seg.map (c * ·)) = disc refNumerics f trimLen seg := by
  rw [Bool.eq_iff_iff, disc_refNumerics, disc_refNumerics, ← List.map_drop, refEnergy_scale, refEnergy_scale]
  exact mul_lt_mul_iff_right₀ (pow_pos positive 2)

/-- Settles O18: the filters are linear. -/
theorem referenceDiscIsScaleInvariant : Obligations.ReferenceDiscIsScaleInvariant := fun f trimLen seg c positive =>
  ⟨fun b => refEnergy_scale f b c seg, disc_refNumerics_scale f trimLen seg positive⟩

/-- A silent segment is any segment scaled by 0. -/
theorem refEnergy_silent (f : FilterConfig) (b : Band) (n : Nat) : refEnergy f b (List.replicate n 0) = 0 := by
  have scaled := refEnergy_scale f b 0 (List.replicate n 0)
  simpa using scaled

theorem disc_refNumerics_silent (f : FilterConfig) (trimLen n : Nat) :
    disc refNumerics f trimLen (List.replicate n 0) = false := by
  rw [← Bool.not_eq_true, disc_refNumerics, List.drop_replicate, refEnergy_silent, refEnergy_silent]
  exact lt_irrefl 0

/-- Settles O19: silence scaled by 0 is itself. -/
theorem referenceSilenceGivesSpace : Obligations.ReferenceSilenceGivesSpace := fun f trimLen n =>
  ⟨fun b => refEnergy_silent f b n, disc_refNumerics_silent f trimLen n⟩

end Sys2Proof.Machine
end

section
/-! The bit of a block's window (R79, R90, R94, R96). -/

namespace Sys2Proof.Machine

theorem windowBit_of_exact {p : Params} (exactly : p.numerics = .exact) (zero_state : p.edge = .zeroState)
    (seg : List ℝ) : windowBit p seg = disc refNumerics p.filter p.trimLen seg := by
  rw [windowBit, exactly, zero_state]
  rfl

theorem windowBit_of_silent {p : Params} (exactly : p.numerics = .exact) (zero_state : p.edge = .zeroState) (n : Nat) :
    windowBit p (List.replicate n 0) = false := by
  rw [windowBit_of_exact exactly zero_state, disc_refNumerics_silent]

theorem windowBit_scale {p : Params} (exactly : p.numerics = .exact) (zero_state : p.edge = .zeroState) (seg : List ℝ)
    {c : ℝ} (positive : 0 < c) : windowBit p (seg.map (c * ·)) = windowBit p seg := by
  rw [windowBit_of_exact exactly zero_state, windowBit_of_exact exactly zero_state,
    disc_refNumerics_scale _ _ _ positive]

/-- Settles O16: `Disc` is the comparison, and no energy is greater than itself. -/
theorem discComparesBandEnergiesStrictly : Obligations.DiscComparesBandEnergiesStrictly := by
  refine ⟨fun num f trimLen seg => ⟨id, id, fun tie => ?_⟩, fun p exactly zero_state => ⟨fun seg => ?_, ?_⟩⟩
  · rw [disc, tie]
    exact num.gt_irrefl _
  · rw [windowBit_of_exact exactly zero_state, disc_refNumerics]
  · exact windowBit_of_silent exactly zero_state 0

/-- Settles O54: the filter, the arithmetic and TRIM_LEN are made of these parameters alone. -/
theorem discReadsOnlyItsOwnParameters : Obligations.DiscReadsOnlyItsOwnParameters := by
  intro p q seg mark space width order rate trim numerics edge
  have same_filter : p.filter = q.filter := by
    simp only [Params.filter, mark, space, width, order, rate, edge]
  rw [windowBit, windowBit, same_filter, trim, numerics, edge]

theorem windowBits_of_silent {p : Params} (exactly : p.numerics = .exact) (zero_state : p.edge = .zeroState) (n : Nat) :
    windowBits p (List.replicate n 0) = List.replicate (n / p.spb) false := by
  refine List.eq_replicate_iff.mpr ⟨by simp [windowBits], fun bit hbit => ?_⟩
  obtain ⟨k, -, rfl⟩ := List.mem_map.mp hbit
  have zero : sampleValue 0 = 0 := by simp [sampleValue]
  rw [List.drop_replicate, List.take_replicate, List.map_replicate, zero]
  exact windowBit_of_silent exactly zero_state _

/-- Settles O55: the samples waiting and delivered are all 0, so each window is silent. -/
theorem silentPushGivesZerosInExactArithmetic : Obligations.SilentPushGivesZerosInExactArithmetic := by
  intro s n running exactly zero_state zeros
  have all_zero : s.sb ++ List.replicate n 0 = List.replicate (s.sb.length + n) 0 := by
    rw [← List.replicate_append_replicate, ← List.eq_replicate_length.mpr zeros]
  have remainder : leftover s.cfg.params (List.replicate (s.sb.length + n) 0) =
      List.replicate ((s.sb.length + n) % s.cfg.params.spb) 0 := by
    rw [leftover, List.length_replicate, List.drop_replicate, Nat.mod_eq_sub_div_mul]
  rw [exec_push_of_running running, State.receive, all_zero, windowBits_of_silent exactly zero_state, remainder]
  rfl

/-- Settles O56: each window of the normalised signal is the window of the signal scaled by the inverse of the maximum
magnitude. -/
theorem normalisingChangesNoBitInExactArithmetic : Obligations.NormalisingChangesNoBitInExactArithmetic := by
  intro p raw x exactly zero_state accepted
  obtain ⟨-, failed⟩ | ⟨-, -, failed⟩ | ⟨-, loud, answer⟩ := preprocess_cases raw
  · exact absurd (failed.symm.trans accepted) nofun
  · exact absurd (failed.symm.trans accepted) nofun
  · have positive : 0 < (maxMagnitude (firstChannel raw))⁻¹ := inv_pos.mpr ((maxMagnitude_nonneg _).lt_of_ne' loud)
    have scaled : x = (raw.map fun f => f.first.value).map ((maxMagnitude (firstChannel raw))⁻¹ * ·) := by
      obtain rfl := Except.ok.inj (answer.symm.trans accepted)
      simp [firstChannel, div_eq_inv_mul]
    rw [demodAll, demodAll, scaled, List.length_map]
    refine List.map_congr_left fun k _ => ?_
    rw [← List.map_drop, ← List.map_take]
    exact windowBit_scale (p := p.untrimmed) exactly zero_state _ positive

end Sys2Proof.Machine
end

section
/-! Rounding and the derived values (R9, R20 to R22). -/

namespace Sys2Proof

/-- `n` is nearest to `x`, and even where another integer is as near. -/
def IsRounding (x : ℝ) (n : Int) : Prop := |x - n| < 1 / 2 ∨ (|x - n| = 1 / 2 ∧ Even n)

theorem IsRounding.abs_sub_le {x : ℝ} {n : Int} (h : IsRounding x n) : |x - n| ≤ 1 / 2 :=
  h.elim le_of_lt fun tie => tie.1.le

theorem IsRounding.even_of_tie {x : ℝ} {n : Int} (h : IsRounding x n) (tie : |x - n| = 1 / 2) : Even n :=
  h.elim (fun nearer => absurd tie nearer.ne) And.right

theorem isRounding_roundHalfEven (x : ℝ) : IsRounding x (roundHalfEven x) := by
  have below := Int.floor_le x
  have above := Int.lt_floor_add_one x
  simp only [roundHalfEven]
  split_ifs with lower upper even
  · exact .inl (abs_lt.mpr ⟨by linarith, lower⟩)
  · refine .inl (abs_lt.mpr ⟨?_, ?_⟩) <;> push_cast <;> linarith
  · have tie : x - ⌊x⌋ = 1 / 2 := le_antisymm (not_lt.mp upper) (not_lt.mp lower)
    exact .inr ⟨by rw [tie]; exact abs_of_pos one_half_pos, Int.even_iff.mpr even⟩
  · have tie : x - ⌊x⌋ = 1 / 2 := le_antisymm (not_lt.mp upper) (not_lt.mp lower)
    refine .inr ⟨?_, (Int.not_even_iff_odd.mp (mt Int.even_iff.mp even)).add_one⟩
    have other_side : x - ((⌊x⌋ + 1 : Int) : ℝ) = -(1 / 2) := by push_cast; linarith
    rw [other_side, abs_neg]
    exact abs_of_pos one_half_pos

/-- Two roundings of one number lie less than 1 apart, or are two neighbours that are both even. -/
theorem IsRounding.unique {x : ℝ} {n m : Int} (hn : IsRounding x n) (hm : IsRounding x m) : n = m := by
  wlog less : n < m generalizing n m
  · rcases lt_trichotomy n m with lt | eq | gt
    · exact absurd lt less
    · exact eq
    · exact (this hm hn gt).symm
  exfalso
  have apart : (n : ℝ) + 1 ≤ m := by exact_mod_cast less
  obtain ⟨-, near_n⟩ := abs_le.mp hn.abs_sub_le
  obtain ⟨near_m, -⟩ := abs_le.mp hm.abs_sub_le
  have tie_n : x - n = 1 / 2 := by linarith
  have tie_m : x - m = -(1 / 2) := by linarith
  have neighbours : m = n + 1 := by
    have : (m : ℝ) = n + 1 := by linarith
    exact_mod_cast this
  have even_n : Even n := hn.even_of_tie (by rw [tie_n]; exact abs_of_pos one_half_pos)
  have even_m : Even m := hm.even_of_tie (by rw [tie_m, abs_neg]; exact abs_of_pos one_half_pos)
  rw [neighbours] at even_m
  exact (Int.not_even_iff_odd.mpr even_n.add_one) even_m

/-- Settles O53: the rounding of the model is one, and there is one only. -/
theorem roundingTakesTheNearestIntegerTiesToEven : Obligations.RoundingTakesTheNearestIntegerTiesToEven := fun x _ =>
  ⟨fun rounds => rounds ▸ isRounding_roundHalfEven x, fun nearest => (isRounding_roundHalfEven x).unique nearest⟩

theorem bitDuration_mul_baud {p : Params} (legal : p.Legal) : p.bitDuration * p.baud.value = 1 :=
  div_mul_cancel₀ 1 legal.baud_pos.ne'

theorem isRounding_spb {p : Params} (legal : p.Legal) : IsRounding (p.sampleRate.value * p.bitDuration) (p.spb : Int) :=
  legal.spb_derived ▸ isRounding_roundHalfEven _

/-- Settles O52: SPB is the rounding of its quotient, and the others are read off their definitions. -/
theorem derivedValuesFollowTheirFormulas : Obligations.DerivedValuesFollowTheirFormulas := by
  refine ⟨fun c => ?_, rfl, rfl, rfl⟩
  have rounding := isRounding_spb c.legal
  refine ⟨bitDuration_mul_baud c.legal, c.legal.spb_pos, by simpa using rounding.abs_sub_le, fun tie => ?_, rfl,
    Machine.Configuration.spb_le_bound c, fun trim => ?_, fun no_trim => ?_⟩
  · exact (Int.even_coe_nat _).mp (rounding.even_of_tie tie)
  · rw [Params.trimLen, if_pos trim]
    omega
  · rw [Params.trimLen, if_neg (by rw [no_trim]; exact Bool.false_ne_true)]

end Sys2Proof
end
